-- ==== Sys2Proof/Word.lean ====
section
/-! DEFINITION. The two value widths of the core: a byte (u8) and a 16-bit word (u16), 00_scope.md R5 and R8. -/

namespace Sys2Proof

/-- A u8 (00_scope.md R8): a register, a memory byte, an immediate, a port number. -/
abbrev Byte := BitVec 8

/-- A u16 (00_scope.md R8): an address, pc, sp, a register pair's view. -/
abbrev Word := BitVec 16

end Sys2Proof
end

