-- ==== Sys2Proof/Syntax.lean ====
section
/-! DEFINITION. The instruction set as syntax: the operand selectors and one constructor of Instr for each mnemonic of
spec/opcode_table.json (LAWS.json maps each constructor to its mnemonic). -/

namespace Sys2Proof

/-- The seven 8-bit registers (10_state.md R15). M is not a register (R66). -/
inductive Reg where
  | b | c | d | e | h | l | a
  deriving DecidableEq, Repr

/-- The register pairs that PUSH and POP name beside PSW: views of two registers (10_state.md R17, R18). -/
inductive Pair where
  | bc | de | hl
  deriving DecidableEq, Repr

/-- The 16-bit operands of LXI, INX, DCX and DAD (10_state.md R18). -/
inductive Rp where
  | bc | de | hl | sp
  deriving DecidableEq, Repr

/-- The address pairs of LDAX and STAX (10_state.md R18). -/
inductive IndirPair where
  | bc | de
  deriving DecidableEq, Repr

/-- The ALU operations in the order of their code `ooo` (30_encoding.md R70). -/
inductive AluOp where
  | add | adc | sub | sbb | ana | xra | ora | cmp
  deriving DecidableEq, Repr

/-- The condition codes in the order of their code `ccc` (30_encoding.md R69). -/
inductive Cond where
  | nz | z | nc | c | po | pe | p | m
  deriving DecidableEq, Repr

/-- One constructor per mnemonic of the opcode table. The register operands are part of the mnemonic; an argument is an operand
that follows the opcode byte: d8 or a port number (R67), d16 or a16 (R68). `unrecognised` stands for the table's twelve rows of
that name and carries the byte (30_encoding.md R81). -/
inductive Instr where
  -- The opcode bytes with no assigned behaviour (30_encoding.md R81, 60_exceptions.md R188)
  | unrecognised (op : Byte)
  -- 40_data_transfer.md: MOV r1,r2 (R93)
  | movBB | movBC | movBD | movBE | movBH | movBL | movBA | movCB | movCC | movCD | movCE | movCH | movCL | movCA
  | movDB | movDC | movDD | movDE | movDH | movDL | movDA | movEB | movEC | movED | movEE | movEH | movEL | movEA
  | movHB | movHC | movHD | movHE | movHH | movHL | movHA | movLB | movLC | movLD | movLE | movLH | movLL | movLA
  | movAB | movAC | movAD | movAE | movAH | movAL | movAA
  -- MOV r,M (R94); MOV M,r (R95)
  | movBM | movCM | movDM | movEM | movHM | movLM | movMB | movMC | movMD | movME | movMH | movML | movMA | movAM
  -- MVI r,d8 (R96); MVI M,d8 (R97)
  | mviB (d8 : Byte) | mviC (d8 : Byte) | mviD (d8 : Byte) | mviE (d8 : Byte) | mviH (d8 : Byte) | mviL (d8 : Byte)
  | mviM (d8 : Byte) | mviA (d8 : Byte)
  -- LXI rp,d16 (R98); LDA, STA, LHLD, SHLD a16 (R99 to R102)
  | lxiB (d16 : Word) | lxiD (d16 : Word) | lxiH (d16 : Word) | shld (a16 : Word) | lhld (a16 : Word)
  | lxiSp (d16 : Word) | sta (a16 : Word) | lda (a16 : Word)
  -- LDAX (R103); STAX (R104)
  | staxB | ldaxB | staxD | ldaxD
  -- 41_arithmetic.md: ADD, ADI (R105 to R107)
  | addB | addC | addD | addE | addH | addL | addM | addA | adi (d8 : Byte)
  -- ADC, ACI (R108 to R110)
  | adcB | adcC | adcD | adcE | adcH | adcL | adcM | adcA | aci (d8 : Byte)
  -- SUB, SUI (R111 to R113)
  | subB | subC | subD | subE | subH | subL | subM | subA | sui (d8 : Byte)
  -- SBB, SBI (R114 to R116)
  | sbbB | sbbC | sbbD | sbbE | sbbH | sbbL | sbbM | sbbA | sbi (d8 : Byte)
  -- INR (R117, R118); DCR (R119, R120)
  | inrB | dcrB | inrC | dcrC | inrD | dcrD | inrE | dcrE | inrH | dcrH | inrL | dcrL | inrM | dcrM | inrA | dcrA
  -- INX (R121); DCX (R122); DAD (R123); DAA (R124)
  | inxB | dadB | dcxB | inxD | dadD | dcxD | inxH | daa | dadH | dcxH | inxSp | dadSp | dcxSp
  -- 42_logical.md: ANA, ANI (R125 to R127)
  | anaB | anaC | anaD | anaE | anaH | anaL | anaM | anaA | ani (d8 : Byte)
  -- XRA, XRI (R128 to R130)
  | xraB | xraC | xraD | xraE | xraH | xraL | xraM | xraA | xri (d8 : Byte)
  -- ORA, ORI (R131 to R133)
  | oraB | oraC | oraD | oraE | oraH | oraL | oraM | oraA | ori (d8 : Byte)
  -- CMP, CPI (R134 to R136)
  | cmpB | cmpC | cmpD | cmpE | cmpH | cmpL | cmpM | cmpA | cpi (d8 : Byte)
  -- CMA, STC, CMC (R137 to R139)
  | cma | stc | cmc
  -- 43_rotate.md: RLC, RRC, RAL, RAR (R140 to R143)
  | rlc | rrc | ral | rar
  -- 44_stack_control.md: JMP and the conditional jumps (R145 to R153)
  | jnz (a16 : Word) | jmp (a16 : Word) | jz (a16 : Word) | jnc (a16 : Word) | jc (a16 : Word) | jpo (a16 : Word)
  | jpe (a16 : Word) | jp (a16 : Word) | jm (a16 : Word)
  -- CALL and the conditional calls (R154 to R162)
  | cnz (a16 : Word) | cz (a16 : Word) | call (a16 : Word) | cnc (a16 : Word) | cc (a16 : Word) | cpo (a16 : Word)
  | cpe (a16 : Word) | cp (a16 : Word) | cm (a16 : Word)
  -- RET and the conditional returns (R163 to R171)
  | rnz | rz | ret | rnc | rc | rpo | rpe | rp | rm
  -- RST n (R172); PCHL (R173)
  | rst0 | rst1 | rst2 | rst3 | rst4 | pchl | rst5 | rst6 | rst7
  -- PUSH (R174, R175); POP (R176, R177)
  | popB | pushB | popD | pushD | popH | pushH | popPsw | pushPsw
  -- XTHL, SPHL, XCHG (R178 to R180)
  | xthl | xchg | sphl
  -- 45_flow_interrupt.md: EI, DI, HLT, IN, OUT, NOP (R181 to R186)
  | nop | hlt | outPort (port : Byte) | inPort (port : Byte) | di | ei
  deriving DecidableEq, Repr

end Sys2Proof
end

