-- ==== Sys2Proof/WellFormed.lean ====
section
/-! DEFINITION. Which terms of Instr stand for an instruction of the core. Every operand value is legal (30_encoding.md R81), so the
one check is on `unrecognised`: it must carry one of the twelve bytes with no assigned behaviour. -/

namespace Sys2Proof

/-- Exactly twelve opcode values are unrecognised (30_encoding.md R81, decision D1). -/
def unrecognisedOpcodes : List Byte :=
  [0x08#8, 0x10#8, 0x18#8, 0x20#8, 0x28#8, 0x30#8, 0x38#8, 0xCB#8, 0xD9#8, 0xDD#8, 0xED#8, 0xFD#8]

/-- An instruction is well formed unless it is `unrecognised` with a byte that the core does recognise. -/
def Instr.wellFormed : Instr → Bool
  | .unrecognised op => unrecognisedOpcodes.contains op
  | .nop | .lxiB _ | .staxB | .inxB | .inrB | .dcrB | .mviB _ | .rlc | .dadB | .ldaxB | .dcxB | .inrC | .dcrC | .mviC _
  | .rrc | .lxiD _ | .staxD | .inxD | .inrD | .dcrD | .mviD _ | .ral | .dadD | .ldaxD | .dcxD | .inrE | .dcrE | .mviE _
  | .rar | .lxiH _ | .shld _ | .inxH | .inrH | .dcrH | .mviH _ | .daa | .dadH | .lhld _ | .dcxH | .inrL | .dcrL
  | .mviL _ | .cma | .lxiSp _ | .sta _ | .inxSp | .inrM | .dcrM | .mviM _ | .stc | .dadSp | .lda _ | .dcxSp | .inrA
  | .dcrA | .mviA _ | .cmc | .movBB | .movBC | .movBD | .movBE | .movBH | .movBL | .movBM | .movBA | .movCB | .movCC
  | .movCD | .movCE | .movCH | .movCL | .movCM | .movCA | .movDB | .movDC | .movDD | .movDE | .movDH | .movDL | .movDM
  | .movDA | .movEB | .movEC | .movED | .movEE | .movEH | .movEL | .movEM | .movEA | .movHB | .movHC | .movHD | .movHE
  | .movHH | .movHL | .movHM | .movHA | .movLB | .movLC | .movLD | .movLE | .movLH | .movLL | .movLM | .movLA | .movMB
  | .movMC | .movMD | .movME | .movMH | .movML | .hlt | .movMA | .movAB | .movAC | .movAD | .movAE | .movAH | .movAL
  | .movAM | .movAA | .addB | .addC | .addD | .addE | .addH | .addL | .addM | .addA | .adcB | .adcC | .adcD | .adcE
  | .adcH | .adcL | .adcM | .adcA | .subB | .subC | .subD | .subE | .subH | .subL | .subM | .subA | .sbbB | .sbbC
  | .sbbD | .sbbE | .sbbH | .sbbL | .sbbM | .sbbA | .anaB | .anaC | .anaD | .anaE | .anaH | .anaL | .anaM | .anaA
  | .xraB | .xraC | .xraD | .xraE | .xraH | .xraL | .xraM | .xraA | .oraB | .oraC | .oraD | .oraE | .oraH | .oraL
  | .oraM | .oraA | .cmpB | .cmpC | .cmpD | .cmpE | .cmpH | .cmpL | .cmpM | .cmpA | .rnz | .popB | .jnz _ | .jmp _
  | .cnz _ | .pushB | .adi _ | .rst0 | .rz | .ret | .jz _ | .cz _ | .call _ | .aci _ | .rst1 | .rnc | .popD | .jnc _
  | .outPort _ | .cnc _ | .pushD | .sui _ | .rst2 | .rc | .jc _ | .inPort _ | .cc _ | .sbi _ | .rst3 | .rpo | .popH
  | .jpo _ | .xthl | .cpo _ | .pushH | .ani _ | .rst4 | .rpe | .pchl | .jpe _ | .xchg | .cpe _ | .xri _ | .rst5 | .rp
  | .popPsw | .jp _ | .di | .cp _ | .pushPsw | .ori _ | .rst6 | .rm | .sphl | .jm _ | .ei | .cm _ | .cpi _ | .rst7 => true

end Sys2Proof
end

