-- ==== Sys2Proof/Decode.lean ====
section
/-! DEFINITION. From bytes to an instruction and back. The decoder reads the field layouts of 30_encoding.md R65; the encoder reads
the opcode table, one byte per row (R77 to R80, spec/opcode_table.json). The two are written apart, so that their agreement says
something. The opcode map is the spec's decision D2. -/

namespace Sys2Proof

/-! ## Bytes of a word -/

/-- `lo8(v)` (00_scope.md R8). -/
def lo8 (v : Word) : Byte := v.extractLsb' 0 8

/-- `hi8(v)` (00_scope.md R8). -/
def hi8 (v : Word) : Byte := v.extractLsb' 8 8

/-- The concatenation `hi:lo` (00_scope.md R9). -/
def joinBytes (hi lo : Byte) : Word := hi ++ lo

/-! ## From operand selectors to constructors -/

/-- MOV r1,r2: destination, then source (40_data_transfer.md R93). -/
def Instr.ofMov : Reg → Reg → Instr
  | .b, .b => .movBB | .b, .c => .movBC | .b, .d => .movBD | .b, .e => .movBE | .b, .h => .movBH | .b, .l => .movBL
  | .b, .a => .movBA | .c, .b => .movCB | .c, .c => .movCC | .c, .d => .movCD | .c, .e => .movCE | .c, .h => .movCH
  | .c, .l => .movCL | .c, .a => .movCA | .d, .b => .movDB | .d, .c => .movDC | .d, .d => .movDD | .d, .e => .movDE
  | .d, .h => .movDH | .d, .l => .movDL | .d, .a => .movDA | .e, .b => .movEB | .e, .c => .movEC | .e, .d => .movED
  | .e, .e => .movEE | .e, .h => .movEH | .e, .l => .movEL | .e, .a => .movEA | .h, .b => .movHB | .h, .c => .movHC
  | .h, .d => .movHD | .h, .e => .movHE | .h, .h => .movHH | .h, .l => .movHL | .h, .a => .movHA | .l, .b => .movLB
  | .l, .c => .movLC | .l, .d => .movLD | .l, .e => .movLE | .l, .h => .movLH | .l, .l => .movLL | .l, .a => .movLA
  | .a, .b => .movAB | .a, .c => .movAC | .a, .d => .movAD | .a, .e => .movAE | .a, .h => .movAH | .a, .l => .movAL
  | .a, .a => .movAA

/-- MOV r,M (R94). -/
def Instr.ofMovFromM : Reg → Instr
  | .b => .movBM | .c => .movCM | .d => .movDM | .e => .movEM | .h => .movHM | .l => .movLM | .a => .movAM

/-- MOV M,r (R95). -/
def Instr.ofMovToM : Reg → Instr
  | .b => .movMB | .c => .movMC | .d => .movMD | .e => .movME | .h => .movMH | .l => .movML | .a => .movMA

/-- MVI r,d8 (R96). -/
def Instr.ofMvi : Reg → Byte → Instr
  | .b, v => .mviB v | .c, v => .mviC v | .d, v => .mviD v | .e, v => .mviE v | .h, v => .mviH v | .l, v => .mviL v
  | .a, v => .mviA v

/-- LXI rp,d16 (R98). -/
def Instr.ofLxi : Rp → Word → Instr
  | .bc, v => .lxiB v | .de, v => .lxiD v | .hl, v => .lxiH v | .sp, v => .lxiSp v

/-- INX rp (R121). -/
def Instr.ofInx : Rp → Instr
  | .bc => .inxB | .de => .inxD | .hl => .inxH | .sp => .inxSp

/-- DCX rp (R122). -/
def Instr.ofDcx : Rp → Instr
  | .bc => .dcxB | .de => .dcxD | .hl => .dcxH | .sp => .dcxSp

/-- DAD rp (R123). -/
def Instr.ofDad : Rp → Instr
  | .bc => .dadB | .de => .dadD | .hl => .dadH | .sp => .dadSp

/-- LDAX rp (R103). -/
def Instr.ofLdax : IndirPair → Instr
  | .bc => .ldaxB | .de => .ldaxD

/-- STAX rp (R104). -/
def Instr.ofStax : IndirPair → Instr
  | .bc => .staxB | .de => .staxD

/-- INR r (R117). -/
def Instr.ofInr : Reg → Instr
  | .b => .inrB | .c => .inrC | .d => .inrD | .e => .inrE | .h => .inrH | .l => .inrL | .a => .inrA

/-- DCR r (R119). -/
def Instr.ofDcr : Reg → Instr
  | .b => .dcrB | .c => .dcrC | .d => .dcrD | .e => .dcrE | .h => .dcrH | .l => .dcrL | .a => .dcrA

/-- ADD to CMP with a register source (30_encoding.md R70, R79). -/
def Instr.ofAlu : AluOp → Reg → Instr
  | .add, .b => .addB | .add, .c => .addC | .add, .d => .addD | .add, .e => .addE | .add, .h => .addH
  | .add, .l => .addL | .add, .a => .addA | .adc, .b => .adcB | .adc, .c => .adcC | .adc, .d => .adcD
  | .adc, .e => .adcE | .adc, .h => .adcH | .adc, .l => .adcL | .adc, .a => .adcA | .sub, .b => .subB
  | .sub, .c => .subC | .sub, .d => .subD | .sub, .e => .subE | .sub, .h => .subH | .sub, .l => .subL
  | .sub, .a => .subA | .sbb, .b => .sbbB | .sbb, .c => .sbbC | .sbb, .d => .sbbD | .sbb, .e => .sbbE
  | .sbb, .h => .sbbH | .sbb, .l => .sbbL | .sbb, .a => .sbbA | .ana, .b => .anaB | .ana, .c => .anaC
  | .ana, .d => .anaD | .ana, .e => .anaE | .ana, .h => .anaH | .ana, .l => .anaL | .ana, .a => .anaA
  | .xra, .b => .xraB | .xra, .c => .xraC | .xra, .d => .xraD | .xra, .e => .xraE | .xra, .h => .xraH
  | .xra, .l => .xraL | .xra, .a => .xraA | .ora, .b => .oraB | .ora, .c => .oraC | .ora, .d => .oraD
  | .ora, .e => .oraE | .ora, .h => .oraH | .ora, .l => .oraL | .ora, .a => .oraA | .cmp, .b => .cmpB
  | .cmp, .c => .cmpC | .cmp, .d => .cmpD | .cmp, .e => .cmpE | .cmp, .h => .cmpH | .cmp, .l => .cmpL
  | .cmp, .a => .cmpA

/-- ADD to CMP with source M. -/
def Instr.ofAluM : AluOp → Instr
  | .add => .addM | .adc => .adcM | .sub => .subM | .sbb => .sbbM | .ana => .anaM | .xra => .xraM | .ora => .oraM
  | .cmp => .cmpM

/-- ADI to CPI (30_encoding.md R70). -/
def Instr.ofAluImm : AluOp → Byte → Instr
  | .add, v => .adi v | .adc, v => .aci v | .sub, v => .sui v | .sbb, v => .sbi v | .ana, v => .ani v
  | .xra, v => .xri v | .ora, v => .ori v | .cmp, v => .cpi v

/-- The conditional jumps (R146 to R153). -/
def Instr.ofJump : Cond → Word → Instr
  | .nz, v => .jnz v | .z, v => .jz v | .nc, v => .jnc v | .c, v => .jc v | .po, v => .jpo v | .pe, v => .jpe v
  | .p, v => .jp v | .m, v => .jm v

/-- The conditional calls (R155 to R162). -/
def Instr.ofCall : Cond → Word → Instr
  | .nz, v => .cnz v | .z, v => .cz v | .nc, v => .cnc v | .c, v => .cc v | .po, v => .cpo v | .pe, v => .cpe v
  | .p, v => .cp v | .m, v => .cm v

/-- The conditional returns (R164 to R171). -/
def Instr.ofRet : Cond → Instr
  | .nz => .rnz | .z => .rz | .nc => .rnc | .c => .rc | .po => .rpo | .pe => .rpe | .p => .rp | .m => .rm

/-- RST n (R172). -/
def Instr.ofRst : Fin 8 → Instr
  | 0 => .rst0 | 1 => .rst1 | 2 => .rst2 | 3 => .rst3 | 4 => .rst4 | 5 => .rst5 | 6 => .rst6 | 7 => .rst7

/-- PUSH rp (R174). -/
def Instr.ofPush : Pair → Instr
  | .bc => .pushB | .de => .pushD | .hl => .pushH

/-- POP rp (R176). -/
def Instr.ofPop : Pair → Instr
  | .bc => .popB | .de => .popD | .hl => .popH

/-! ## Fields of the opcode byte -/

/-- The 3-bit register code (10_state.md R16); 110 is M, no register. -/
def regOfCode : Nat → Option Reg
  | 0 => some .b
  | 1 => some .c
  | 2 => some .d
  | 3 => some .e
  | 4 => some .h
  | 5 => some .l
  | 7 => some .a
  | _ => none

/-- The 2-bit pair code of LXI, INX, DCX and DAD (10_state.md R18). -/
def rpOfCode : Nat → Rp
  | 0 => .bc
  | 1 => .de
  | 2 => .hl
  | _ => .sp

/-- The 2-bit pair code of PUSH and POP (10_state.md R18); 11 is PSW, no pair. -/
def pairOfCode : Nat → Option Pair
  | 0 => some .bc
  | 1 => some .de
  | 2 => some .hl
  | _ => none

/-- The ALU operation code `ooo` (30_encoding.md R70). -/
def aluOfCode : Nat → AluOp
  | 0 => .add
  | 1 => .adc
  | 2 => .sub
  | 3 => .sbb
  | 4 => .ana
  | 5 => .xra
  | 6 => .ora
  | _ => .cmp

/-- The condition code `ccc` (30_encoding.md R69). -/
def condOfCode : Nat → Cond
  | 0 => .nz
  | 1 => .z
  | 2 => .nc
  | 3 => .c
  | 4 => .po
  | 5 => .pe
  | 6 => .p
  | _ => .m

/-! ## The decoder -/

/-- Opcodes 0x00 to 0x3F (30_encoding.md R65, R77): `y` is bits 5 to 3, `z` is bits 2 to 0, `b1` and `b2` the operand bytes. -/
def decodeQuadrant0 (op b1 b2 : Byte) (y z : Nat) : Instr :=
  match z with
  | 0 => if y = 0 then .nop else .unrecognised op
  | 1 => if y % 2 = 0 then .ofLxi (rpOfCode (y / 2)) (joinBytes b2 b1) else .ofDad (rpOfCode (y / 2))
  | 2 =>
    match y with
    | 0 => .ofStax .bc
    | 1 => .ofLdax .bc
    | 2 => .ofStax .de
    | 3 => .ofLdax .de
    | 4 => .shld (joinBytes b2 b1)
    | 5 => .lhld (joinBytes b2 b1)
    | 6 => .sta (joinBytes b2 b1)
    | _ => .lda (joinBytes b2 b1)
  | 3 => if y % 2 = 0 then .ofInx (rpOfCode (y / 2)) else .ofDcx (rpOfCode (y / 2))
  | 4 =>
    match regOfCode y with
    | some r => .ofInr r
    | none => .inrM
  | 5 =>
    match regOfCode y with
    | some r => .ofDcr r
    | none => .dcrM
  | 6 =>
    match regOfCode y with
    | some r => .ofMvi r b1
    | none => .mviM b1
  | _ =>
    match y with
    | 0 => .rlc
    | 1 => .rrc
    | 2 => .ral
    | 3 => .rar
    | 4 => .daa
    | 5 => .cma
    | 6 => .stc
    | _ => .cmc

/-- Opcodes 0x40 to 0x7F (30_encoding.md R78): MOV, with 0x76 for HLT. -/
def decodeQuadrant1 (y z : Nat) : Instr :=
  match regOfCode y, regOfCode z with
  | some dst, some src => .ofMov dst src
  | some dst, none => .ofMovFromM dst
  | none, some src => .ofMovToM src
  | none, none => .hlt

/-- Opcodes 0x80 to 0xBF (30_encoding.md R79): the ALU operations on a register or M. -/
def decodeQuadrant2 (y z : Nat) : Instr :=
  match regOfCode z with
  | some src => .ofAlu (aluOfCode y) src
  | none => .ofAluM (aluOfCode y)

/-- Opcodes 0xC0 to 0xFF (30_encoding.md R65, R80). -/
def decodeQuadrant3 (op b1 b2 : Byte) (y z : Nat) : Instr :=
  match z with
  | 0 => .ofRet (condOfCode y)
  | 1 =>
    match y with
    | 1 => .ret
    | 3 => .unrecognised op
    | 5 => .pchl
    | 7 => .sphl
    | _ =>
      match pairOfCode (y / 2) with
      | some p => .ofPop p
      | none => .popPsw
  | 2 => .ofJump (condOfCode y) (joinBytes b2 b1)
  | 3 =>
    match y with
    | 0 => .jmp (joinBytes b2 b1)
    | 1 => .unrecognised op
    | 2 => .outPort b1
    | 3 => .inPort b1
    | 4 => .xthl
    | 5 => .xchg
    | 6 => .di
    | _ => .ei
  | 4 => .ofCall (condOfCode y) (joinBytes b2 b1)
  | 5 =>
    match y with
    | 1 => .call (joinBytes b2 b1)
    | 3 => .unrecognised op
    | 5 => .unrecognised op
    | 7 => .unrecognised op
    | _ =>
      match pairOfCode (y / 2) with
      | some p => .ofPush p
      | none => .pushPsw
  | 6 => .ofAluImm (aluOfCode y) b1
  | _ => .ofRst (Fin.ofNat 8 y)

/-- The instruction of an opcode byte with the two bytes that follow it (30_encoding.md R63, R73): an exhaustive choice on the
opcode byte. An instruction without operand bytes ignores `b1` and `b2`. -/
def decodeOpcode (op b1 b2 : Byte) : Instr :=
  let y := (op.extractLsb' 3 3).toNat
  let z := (op.extractLsb' 0 3).toNat
  match (op.extractLsb' 6 2).toNat with
  | 0 => decodeQuadrant0 op b1 b2 y z
  | 1 => decodeQuadrant1 y z
  | 2 => decodeQuadrant2 y z
  | _ => decodeQuadrant3 op b1 b2 y z

/-- The opcodes with an 8-bit operand (30_encoding.md R64). -/
def length2Opcodes : List Byte :=
  [0x06#8, 0x0E#8, 0x16#8, 0x1E#8, 0x26#8, 0x2E#8, 0x36#8, 0x3E#8, 0xC6#8, 0xCE#8, 0xD6#8, 0xDE#8, 0xE6#8, 0xEE#8, 0xF6#8,
   0xFE#8, 0xD3#8, 0xDB#8]

/-- The opcodes with a 16-bit operand (30_encoding.md R64). -/
def length3Opcodes : List Byte :=
  [0x01#8, 0x11#8, 0x21#8, 0x31#8, 0x22#8, 0x2A#8, 0x32#8, 0x3A#8, 0xC3#8, 0xC2#8, 0xCA#8, 0xD2#8, 0xDA#8, 0xE2#8, 0xEA#8,
   0xF2#8, 0xFA#8, 0xCD#8, 0xC4#8, 0xCC#8, 0xD4#8, 0xDC#8, 0xE4#8, 0xEC#8, 0xF4#8, 0xFC#8]

/-- The length of an instruction, from its opcode byte alone (30_encoding.md R64, R82). -/
def opcodeLength (op : Byte) : Nat :=
  if length2Opcodes.contains op then 2 else if length3Opcodes.contains op then 3 else 1

/-- Why a list of bytes holds no whole instruction. An unrecognised opcode is no such reason: it decodes to `unrecognised`. -/
inductive DecodeError where
  | noOpcode                       -- the list is empty
  | missingOperand (op : Byte)     -- the list ends before the operand bytes of the opcode `op`
  deriving DecidableEq, Repr

/-- The first instruction of a list of bytes and the bytes after it; exactly as many bytes as its length are taken
(30_encoding.md R82). -/
def decode : List Byte → Except DecodeError (Instr × List Byte)
  | [] => .error .noOpcode
  | op :: rest =>
    match opcodeLength op, rest with
    | 1, rest => .ok (decodeOpcode op 0 0, rest)
    | 2, b1 :: rest => .ok (decodeOpcode op b1 0, rest)
    | 3, b1 :: b2 :: rest => .ok (decodeOpcode op b1 b2, rest)
    | _, _ => .error (.missingOperand op)

/-! ## The encoder -/

/-- The opcode byte of an instruction, as the opcode table has it. -/
def Instr.opcode : Instr → Byte
  | .nop => 0x00#8 | .lxiB _ => 0x01#8 | .staxB => 0x02#8 | .inxB => 0x03#8 | .inrB => 0x04#8 | .dcrB => 0x05#8
  | .mviB _ => 0x06#8 | .rlc => 0x07#8 | .dadB => 0x09#8 | .ldaxB => 0x0A#8 | .dcxB => 0x0B#8 | .inrC => 0x0C#8
  | .dcrC => 0x0D#8 | .mviC _ => 0x0E#8 | .rrc => 0x0F#8 | .lxiD _ => 0x11#8 | .staxD => 0x12#8 | .inxD => 0x13#8
  | .inrD => 0x14#8 | .dcrD => 0x15#8 | .mviD _ => 0x16#8 | .ral => 0x17#8 | .dadD => 0x19#8 | .ldaxD => 0x1A#8
  | .dcxD => 0x1B#8 | .inrE => 0x1C#8 | .dcrE => 0x1D#8 | .mviE _ => 0x1E#8 | .rar => 0x1F#8 | .lxiH _ => 0x21#8
  | .shld _ => 0x22#8 | .inxH => 0x23#8 | .inrH => 0x24#8 | .dcrH => 0x25#8 | .mviH _ => 0x26#8 | .daa => 0x27#8
  | .dadH => 0x29#8 | .lhld _ => 0x2A#8 | .dcxH => 0x2B#8 | .inrL => 0x2C#8 | .dcrL => 0x2D#8 | .mviL _ => 0x2E#8
  | .cma => 0x2F#8 | .lxiSp _ => 0x31#8 | .sta _ => 0x32#8 | .inxSp => 0x33#8 | .inrM => 0x34#8 | .dcrM => 0x35#8
  | .mviM _ => 0x36#8 | .stc => 0x37#8 | .dadSp => 0x39#8 | .lda _ => 0x3A#8 | .dcxSp => 0x3B#8 | .inrA => 0x3C#8
  | .dcrA => 0x3D#8 | .mviA _ => 0x3E#8 | .cmc => 0x3F#8 | .movBB => 0x40#8 | .movBC => 0x41#8 | .movBD => 0x42#8
  | .movBE => 0x43#8 | .movBH => 0x44#8 | .movBL => 0x45#8 | .movBM => 0x46#8 | .movBA => 0x47#8 | .movCB => 0x48#8
  | .movCC => 0x49#8 | .movCD => 0x4A#8 | .movCE => 0x4B#8 | .movCH => 0x4C#8 | .movCL => 0x4D#8 | .movCM => 0x4E#8
  | .movCA => 0x4F#8 | .movDB => 0x50#8 | .movDC => 0x51#8 | .movDD => 0x52#8 | .movDE => 0x53#8 | .movDH => 0x54#8
  | .movDL => 0x55#8 | .movDM => 0x56#8 | .movDA => 0x57#8 | .movEB => 0x58#8 | .movEC => 0x59#8 | .movED => 0x5A#8
  | .movEE => 0x5B#8 | .movEH => 0x5C#8 | .movEL => 0x5D#8 | .movEM => 0x5E#8 | .movEA => 0x5F#8 | .movHB => 0x60#8
  | .movHC => 0x61#8 | .movHD => 0x62#8 | .movHE => 0x63#8 | .movHH => 0x64#8 | .movHL => 0x65#8 | .movHM => 0x66#8
  | .movHA => 0x67#8 | .movLB => 0x68#8 | .movLC => 0x69#8 | .movLD => 0x6A#8 | .movLE => 0x6B#8 | .movLH => 0x6C#8
  | .movLL => 0x6D#8 | .movLM => 0x6E#8 | .movLA => 0x6F#8 | .movMB => 0x70#8 | .movMC => 0x71#8 | .movMD => 0x72#8
  | .movME => 0x73#8 | .movMH => 0x74#8 | .movML => 0x75#8 | .hlt => 0x76#8 | .movMA => 0x77#8 | .movAB => 0x78#8
  | .movAC => 0x79#8 | .movAD => 0x7A#8 | .movAE => 0x7B#8 | .movAH => 0x7C#8 | .movAL => 0x7D#8 | .movAM => 0x7E#8
  | .movAA => 0x7F#8 | .addB => 0x80#8 | .addC => 0x81#8 | .addD => 0x82#8 | .addE => 0x83#8 | .addH => 0x84#8
  | .addL => 0x85#8 | .addM => 0x86#8 | .addA => 0x87#8 | .adcB => 0x88#8 | .adcC => 0x89#8 | .adcD => 0x8A#8
  | .adcE => 0x8B#8 | .adcH => 0x8C#8 | .adcL => 0x8D#8 | .adcM => 0x8E#8 | .adcA => 0x8F#8 | .subB => 0x90#8
  | .subC => 0x91#8 | .subD => 0x92#8 | .subE => 0x93#8 | .subH => 0x94#8 | .subL => 0x95#8 | .subM => 0x96#8
  | .subA => 0x97#8 | .sbbB => 0x98#8 | .sbbC => 0x99#8 | .sbbD => 0x9A#8 | .sbbE => 0x9B#8 | .sbbH => 0x9C#8
  | .sbbL => 0x9D#8 | .sbbM => 0x9E#8 | .sbbA => 0x9F#8 | .anaB => 0xA0#8 | .anaC => 0xA1#8 | .anaD => 0xA2#8
  | .anaE => 0xA3#8 | .anaH => 0xA4#8 | .anaL => 0xA5#8 | .anaM => 0xA6#8 | .anaA => 0xA7#8 | .xraB => 0xA8#8
  | .xraC => 0xA9#8 | .xraD => 0xAA#8 | .xraE => 0xAB#8 | .xraH => 0xAC#8 | .xraL => 0xAD#8 | .xraM => 0xAE#8
  | .xraA => 0xAF#8 | .oraB => 0xB0#8 | .oraC => 0xB1#8 | .oraD => 0xB2#8 | .oraE => 0xB3#8 | .oraH => 0xB4#8
  | .oraL => 0xB5#8 | .oraM => 0xB6#8 | .oraA => 0xB7#8 | .cmpB => 0xB8#8 | .cmpC => 0xB9#8 | .cmpD => 0xBA#8
  | .cmpE => 0xBB#8 | .cmpH => 0xBC#8 | .cmpL => 0xBD#8 | .cmpM => 0xBE#8 | .cmpA => 0xBF#8 | .rnz => 0xC0#8
  | .popB => 0xC1#8 | .jnz _ => 0xC2#8 | .jmp _ => 0xC3#8 | .cnz _ => 0xC4#8 | .pushB => 0xC5#8 | .adi _ => 0xC6#8
  | .rst0 => 0xC7#8 | .rz => 0xC8#8 | .ret => 0xC9#8 | .jz _ => 0xCA#8 | .cz _ => 0xCC#8 | .call _ => 0xCD#8
  | .aci _ => 0xCE#8 | .rst1 => 0xCF#8 | .rnc => 0xD0#8 | .popD => 0xD1#8 | .jnc _ => 0xD2#8 | .outPort _ => 0xD3#8
  | .cnc _ => 0xD4#8 | .pushD => 0xD5#8 | .sui _ => 0xD6#8 | .rst2 => 0xD7#8 | .rc => 0xD8#8 | .jc _ => 0xDA#8
  | .inPort _ => 0xDB#8 | .cc _ => 0xDC#8 | .sbi _ => 0xDE#8 | .rst3 => 0xDF#8 | .rpo => 0xE0#8 | .popH => 0xE1#8
  | .jpo _ => 0xE2#8 | .xthl => 0xE3#8 | .cpo _ => 0xE4#8 | .pushH => 0xE5#8 | .ani _ => 0xE6#8 | .rst4 => 0xE7#8
  | .rpe => 0xE8#8 | .pchl => 0xE9#8 | .jpe _ => 0xEA#8 | .xchg => 0xEB#8 | .cpe _ => 0xEC#8 | .xri _ => 0xEE#8
  | .rst5 => 0xEF#8 | .rp => 0xF0#8 | .popPsw => 0xF1#8 | .jp _ => 0xF2#8 | .di => 0xF3#8 | .cp _ => 0xF4#8
  | .pushPsw => 0xF5#8 | .ori _ => 0xF6#8 | .rst6 => 0xF7#8 | .rm => 0xF8#8 | .sphl => 0xF9#8 | .jm _ => 0xFA#8
  | .ei => 0xFB#8 | .cm _ => 0xFC#8 | .cpi _ => 0xFE#8 | .rst7 => 0xFF#8
  | .unrecognised op => op

/-- The operand bytes after the opcode: d8 or a port number is one byte (30_encoding.md R67); d16 or a16 is two, low byte first
(R68). -/
def Instr.operandBytes : Instr → List Byte
  | .mviB v | .mviC v | .mviD v | .mviE v | .mviH v | .mviL v | .mviM v | .mviA v | .adi v | .aci v | .outPort v
  | .sui v | .inPort v | .sbi v | .ani v | .xri v | .ori v | .cpi v => [v]
  | .lxiB v | .lxiD v | .lxiH v | .shld v | .lhld v | .lxiSp v | .sta v | .lda v | .jnz v | .jmp v | .cnz v | .jz v
  | .cz v | .call v | .jnc v | .cnc v | .jc v | .cc v | .jpo v | .cpo v | .jpe v | .cpe v | .jp v | .cp v | .jm v
  | .cm v => [lo8 v, hi8 v]
  | .nop | .staxB | .inxB | .inrB | .dcrB | .rlc | .dadB | .ldaxB | .dcxB | .inrC | .dcrC | .rrc | .staxD | .inxD
  | .inrD | .dcrD | .ral | .dadD | .ldaxD | .dcxD | .inrE | .dcrE | .rar | .inxH | .inrH | .dcrH | .daa | .dadH | .dcxH
  | .inrL | .dcrL | .cma | .inxSp | .inrM | .dcrM | .stc | .dadSp | .dcxSp | .inrA | .dcrA | .cmc | .movBB | .movBC
  | .movBD | .movBE | .movBH | .movBL | .movBM | .movBA | .movCB | .movCC | .movCD | .movCE | .movCH | .movCL | .movCM
  | .movCA | .movDB | .movDC | .movDD | .movDE | .movDH | .movDL | .movDM | .movDA | .movEB | .movEC | .movED | .movEE
  | .movEH | .movEL | .movEM | .movEA | .movHB | .movHC | .movHD | .movHE | .movHH | .movHL | .movHM | .movHA | .movLB
  | .movLC | .movLD | .movLE | .movLH | .movLL | .movLM | .movLA | .movMB | .movMC | .movMD | .movME | .movMH | .movML
  | .hlt | .movMA | .movAB | .movAC | .movAD | .movAE | .movAH | .movAL | .movAM | .movAA | .addB | .addC | .addD
  | .addE | .addH | .addL | .addM | .addA | .adcB | .adcC | .adcD | .adcE | .adcH | .adcL | .adcM | .adcA | .subB
  | .subC | .subD | .subE | .subH | .subL | .subM | .subA | .sbbB | .sbbC | .sbbD | .sbbE | .sbbH | .sbbL | .sbbM
  | .sbbA | .anaB | .anaC | .anaD | .anaE | .anaH | .anaL | .anaM | .anaA | .xraB | .xraC | .xraD | .xraE | .xraH
  | .xraL | .xraM | .xraA | .oraB | .oraC | .oraD | .oraE | .oraH | .oraL | .oraM | .oraA | .cmpB | .cmpC | .cmpD
  | .cmpE | .cmpH | .cmpL | .cmpM | .cmpA | .rnz | .popB | .pushB | .rst0 | .rz | .ret | .rst1 | .rnc | .popD | .pushD
  | .rst2 | .rc | .rst3 | .rpo | .popH | .xthl | .pushH | .rst4 | .rpe | .pchl | .xchg | .rst5 | .rp | .popPsw | .di
  | .pushPsw | .rst6 | .rm | .sphl | .ei | .rst7 => []
  | .unrecognised _ => []

/-- The bytes of an instruction, at rising addresses (30_encoding.md R63). -/
def encode (i : Instr) : List Byte := i.opcode :: i.operandBytes

/-! ## A word of the opcode table -/

/-- Byte `k` of the low `nbits` bits of `w`, bits above `nbits` being 0: the byte that the hardware stores at offset `k`, bit 0 of
`w` being the least significant bit of the opcode byte. -/
def tableByte (nbits w k : Nat) : Byte := BitVec.ofNat 8 ((w % 2 ^ nbits) / 256 ^ k)

/-- What the decoder reads from a word of the opcode table (the longest instruction has three bytes). -/
def decodeTableWord (nbits w : Nat) : Option Instr :=
  match decode [tableByte nbits w 0, tableByte nbits w 1, tableByte nbits w 2] with
  | .ok (i, _) => some i
  | .error _ => none

end Sys2Proof
end

