-- ==== Sys2Proof/Config.lean ====
section
/-! DEFINITION. The core's parameters (00_scope.md R6): the partition of the address space, the cycle table, and the values
that the reset state picks for the parameters to which the spec gives no value. -/

namespace Sys2Proof

/-- The partition of the address space (20_memory.md R39): ROM below `romEnd`, RAM from there to below `ramEnd`, unmapped from
`ramEnd` on. It is fixed for the run (10_state.md R30); State carries it, so that a statement about every state is one about
every partition (log 1). -/
structure MemoryMap where
  romEnd : Nat
  ramEnd : Nat
  deriving DecidableEq, Repr

/-- ROM_END <= RAM_END <= 65536 (00_scope.md R6, decision D18). -/
abbrev MemoryMap.Valid (m : MemoryMap) : Prop := m.romEnd ≤ m.ramEnd ∧ m.ramEnd ≤ 65536

/-- CYCLES: the cycle cost of each opcode byte (00_scope.md R6, 70_reset_and_hazards.md R215). The spec gives no value, so it has
no body: a free value (log 5). No rule reads it. -/
opaque Config.cycles : Byte → Nat

/-- The document's original target: ROM 0x0000 to 0x1FFF, RAM 0x2000 to 0x3FFF (20_memory.md R40). Used by the reset state only
(DESIGN CHOICE, log 1). -/
def Config.originalMap : MemoryMap := { romEnd := 0x2000, ramEnd := 0x4000 }

/-- ENTRY_PC of the reset state; the spec gives no value (DESIGN CHOICE, log 2). -/
def Config.entryPc : Word := 0x0000#16

/-- INIT_SP of the reset state; the spec gives no value (DESIGN CHOICE, log 3). -/
def Config.initSp : Word := 0x2400#16

end Sys2Proof
end

