-- ==== Sys2Proof/Machine/State.lean ====
section
/-! DEFINITION. The machine's state as plain data, the reasons a step can stop, and the state after reset. -/

namespace Sys2Proof.Machine

/-- The five flags, stored as five separate booleans (10_state.md R23). -/
structure Flags where
  cy : Bool
  ac : Bool
  p : Bool
  z : Bool
  s : Bool
  deriving DecidableEq, Repr

/-- Memory (10_state.md R31) as the list of the bytes that differ from what an unlisted address reads as, at strictly rising
addresses below 65536 (`Memory.wf` in Machine/Ops.lean). -/
abbrev Memory := List Host.Cell

/-- The kind of a rejected write (20_memory.md R43, decision D19). -/
inductive RejectKind where
  | readOnly      -- the document's "write to read-only region": below ROM_END
  | outsideRam    -- the document's "write outside addressable RAM": at or above RAM_END
  deriving DecidableEq, Repr

/-- The diagnostic event `WriteRejected(addr, v, kind)` (20_memory.md R43). It is an event, not a fault. -/
structure WriteRejected where
  addr : Word
  value : Byte
  kind : RejectKind
  deriving DecidableEq, Repr

/-- The state record of 10_state.md R34 (`a` to `mem`), the partition of the address space (`map`, a parameter that no instruction
reads or writes as data, log 1), and the outputs of the last step (`events` and `cost`, 10_state.md R33, log 6), which the next
step does not read. -/
structure State where
  a : Byte
  b : Byte
  c : Byte
  d : Byte
  e : Byte
  h : Byte
  l : Byte
  f : Flags
  pc : Word
  sp : Word
  ie : Bool
  mem : Memory
  map : MemoryMap
  events : List WriteRejected
  cost : Option Nat
  deriving DecidableEq, Repr

/-- Why the machine stops with a fault. -/
inductive Fault where
  /-- The result `DecodeFailure(addr, op)` (60_exceptions.md R188 to R190): the opcode `op` fetched at `addr` is one of the twelve
  unrecognised bytes. Raised by the meaning of `unrecognised`. The state stays the one before the step. Safe: the spec ends the
  run here too (R190, R206, decision D22). -/
  | decodeFailure (addr : Word) (op : Byte)
  deriving DecidableEq, Repr

/-- Why the model has no meaning for an instruction. -/
inductive Refusal where
  /-- Raised by an arm of `exec` for an instruction that has no meaning yet; no arm raises it now. Safe: nothing is claimed. -/
  | notModelled (mnemonic : String)
  deriving DecidableEq, Repr

/-- What a meaning answers. -/
abbrev Result := Host.Outcome State Fault Refusal

/-- All flags false: the flags are zeroed at reset, not computed (10_state.md R35). -/
def Flags.cleared : Flags := { cy := false, ac := false, p := false, z := false, s := false }

/-- The state right after reset (10_state.md R35, 70_reset_and_hazards.md R207): registers and flags zeroed, the latch off
(decision D11), nothing listed in memory. The spec gives no value to ENTRY_PC, INIT_SP and INIT_MEM: log 2, 3 and 4 name the ones
taken here. `State.create` in Machine/Driver.lean is the same state for any value of the parameters. -/
def State.reset : State where
  a := 0
  b := 0
  c := 0
  d := 0
  e := 0
  h := 0
  l := 0
  f := Flags.cleared
  pc := Config.entryPc
  sp := Config.initSp
  ie := false
  mem := []
  map := Config.originalMap
  events := []
  cost := none

end Sys2Proof.Machine
end

