-- ==== Sys2Proof/Machine/Ops.lean ====
section
/-! DEFINITION. The named operations over memory, registers, the stack and the instruction stream, and the transfer that an
interrupt takes. Every meaning is built from these. -/

namespace Sys2Proof.Machine

/-! ## Memory as a list of cells -/

/-- What an unlisted address reads as (DESIGN CHOICE, log 4). -/
def Memory.unlisted : Byte := 0x00#8

/-- The byte at address `k`. -/
def Memory.read : Memory → Nat → Byte
  | [], _ => Memory.unlisted
  | (j, w) :: m, k => if j = k then w else Memory.read m k

/-- `m` with the byte `v` at address `k`, in canonical form: a byte equal to what an unlisted address reads as is not listed. -/
def Memory.write : Memory → Nat → Byte → Memory
  | [], k, v => if v = Memory.unlisted then [] else [(k, v)]
  | (j, w) :: m, k, v =>
    if k < j then
      if v = Memory.unlisted then (j, w) :: m else (k, v) :: (j, w) :: m
    else if k = j then
      if v = Memory.unlisted then m else (k, v) :: m
    else (j, w) :: Memory.write m k v

/-- The canonical form: addresses strictly rise and are below 65536 (20_memory.md R38), and no cell holds what an unlisted address
reads as. -/
def Memory.wf : Memory → Bool
  | [] => true
  | (j, w) :: m => decide (j < 65536) && decide (w ≠ Memory.unlisted) && m.all (fun cell => decide (j < cell.1)) && Memory.wf m

/-! ## The Memory Guard -/

/-- `MemRead(addr, 1)` always succeeds and changes nothing (20_memory.md R41). -/
def State.read (s : State) (addr : Word) : Byte := s.mem.read addr.toNat

/-- `MemRead(addr, 2)`: low byte first, the second address wraps (20_memory.md R45). -/
def State.read16 (s : State) (addr : Word) : Word := joinBytes (s.read (addr + 1)) (s.read addr)

/-- `diag WriteRejected(addr, v, kind)`: one more event, nothing else (00_scope.md R12, 20_memory.md R43). -/
def State.reject (s : State) (addr : Word) (v : Byte) (kind : RejectKind) : State :=
  { s with events := s.events ++ [{ addr := addr, value := v, kind := kind }] }

/-- `MemWrite(addr, 1, v)`: the guarded byte write (20_memory.md R42). -/
def State.write (s : State) (addr : Word) (v : Byte) : State :=
  if s.map.romEnd ≤ addr.toNat ∧ addr.toNat < s.map.ramEnd then { s with mem := s.mem.write addr.toNat v }
  else if addr.toNat < s.map.romEnd then s.reject addr v .readOnly
  else s.reject addr v .outsideRam

/-- `MemWrite(addr, 2, v)`: two guarded byte writes, low byte first, each checked on its own (20_memory.md R46). -/
def State.write16 (s : State) (addr : Word) (v : Word) : State :=
  (s.write addr (lo8 v)).write (addr + 1) (hi8 v)

/-! ## Registers and pairs -/

/-- `reg[ddd]` for a register (00_scope.md R10). -/
def State.reg (s : State) : Reg → Byte
  | .b => s.b
  | .c => s.c
  | .d => s.d
  | .e => s.e
  | .h => s.h
  | .l => s.l
  | .a => s.a

/-- `reg[ddd] <- v`; no register is hardwired (10_state.md R15). -/
def State.setReg (s : State) : Reg → Byte → State
  | .b, v => { s with b := v }
  | .c, v => { s with c := v }
  | .d, v => { s with d := v }
  | .e, v => { s with e := v }
  | .h, v => { s with h := v }
  | .l, v => { s with l := v }
  | .a, v => { s with a := v }

/-- BC, DE, HL as `B:C`, `D:E`, `H:L` (10_state.md R17). -/
def State.pair (s : State) : Pair → Word
  | .bc => joinBytes s.b s.c
  | .de => joinBytes s.d s.e
  | .hl => joinBytes s.h s.l

/-- A write of a u16 to a pair: the high byte to B, D or H, the low byte to C, E or L (10_state.md R17). -/
def State.setPair (s : State) : Pair → Word → State
  | .bc, v => { s with b := hi8 v, c := lo8 v }
  | .de, v => { s with d := hi8 v, e := lo8 v }
  | .hl, v => { s with h := hi8 v, l := lo8 v }

/-- The 16-bit operand of INX, DCX and DAD: a pair or sp (10_state.md R18). -/
def State.rp (s : State) : Rp → Word
  | .bc => s.pair .bc
  | .de => s.pair .de
  | .hl => s.pair .hl
  | .sp => s.sp

/-- The 16-bit destination of LXI, INX and DCX: a pair or sp (10_state.md R18). -/
def State.setRp (s : State) : Rp → Word → State
  | .bc, v => s.setPair .bc v
  | .de, v => s.setPair .de v
  | .hl, v => s.setPair .hl v
  | .sp, v => { s with sp := v }

/-! ## The stack -/

/-- `Push(v)` (44_stack_control.md R144, 20_memory.md R48): sp moves by 2 whether or not the guard takes the bytes. -/
def State.push (s : State) (v : Word) : State :=
  { s.write16 (s.sp - 2) v with sp := s.sp - 2 }

/-- The value that `Pop()` returns (44_stack_control.md R144): low byte at sp, high byte at sp + 1. -/
def State.top (s : State) : Word := s.read16 s.sp

/-- What `Pop()` does to the state: sp moves up by 2 (44_stack_control.md R144). -/
def State.dropTop (s : State) : State := { s with sp := s.sp + 2 }

/-- `pc <- Pop()`: the return of RET and the conditional returns (44_stack_control.md R163), and the only return from an interrupt
handler (60_exceptions.md R198). -/
def State.popPc (s : State) : State := { s.dropTop with pc := s.top }

/-! ## Restart and interrupt -/

/-- The target of restart `n` (30_encoding.md R71): `8 * n`. -/
def restartAddr (n : Fin 8) : Word := BitVec.ofNat 16 (8 * n.val)

/-- `Push(pc); pc <- 8 * n` (44_stack_control.md R172). It is also how an interrupt enters its handler (60_exceptions.md R195): the
core has no other saving transfer (R197). -/
def State.restart (s : State) (n : Fin 8) : State := { s.push s.pc with pc := restartAddr n }

/-- `InjectRST(n)`, the host's interrupt action between steps (60_exceptions.md R195, decision D13): when the latch is on, clear it
and take restart `n` at the current pc; when it is off, no effect. `events` holds the rejected writes of its push and `cost`
is `none`, since it returns no cycle cost (70_reset_and_hazards.md R216, log 9). -/
def State.injectRst (s : State) (n : Fin 8) : State :=
  if s.ie then { s with ie := false, events := [], cost := none }.restart n
  else { s with events := [], cost := none }

/-! ## The instruction stream -/

/-- The byte at pc + k, as Fetch8 would read it after k fetches (30_encoding.md R74, 10_state.md R21). -/
def State.fetchByte (s : State) (k : Nat) : Byte := s.read (s.pc + BitVec.ofNat 16 k)

/-- The instruction at pc. Reads have no side effect (20_memory.md R52), so that the bytes after a short instruction may be read
and ignored (log 7). -/
def State.fetchInstr (s : State) : Instr := decodeOpcode (s.fetchByte 0) (s.fetchByte 1) (s.fetchByte 2)

/-- The state in which the fetched instruction executes: pc past all its bytes (10_state.md R20, 30_encoding.md R72, R74, R75), no
event yet, no cost yet (log 7). -/
def State.beginStep (s : State) : State :=
  { s with pc := s.pc + BitVec.ofNat 16 (opcodeLength (s.fetchByte 0)), events := [], cost := none }

/-- `return Ok(CYCLES[op])` (30_encoding.md R72, R76): a next state carries the cost of the opcode byte. -/
def finishStep (op : Byte) : Result → Result
  | .next t => .next { t with cost := some (Config.cycles op) }
  | .fault r => .fault r
  | .refused r => .refused r

/-- The decode failure of an instruction that executes with pc past its one byte: pc goes back to the opcode's own address, which
is the address that the fault names (30_encoding.md R81, 60_exceptions.md R188, R189). -/
def State.decodeFailure (s : State) (op : Byte) : Result := .fault (.decodeFailure (s.pc - 1) op)

end Sys2Proof.Machine
end

