-- ==== Sys2Proof/Machine/Flags.lean ====
section
/-! DEFINITION. Every flag computation of the spec (30_encoding.md R86 to R92, 10_state.md R24 and R25, and the instruction rules
that have one of their own). Arithmetic is on unbounded integers, narrowed at the end (00_scope.md R8). -/

namespace Sys2Proof.Machine

/-! ## Zero, sign and parity -/

/-- The number of 1 bits of a byte (00_scope.md R8). -/
def popcount (v : Byte) : Nat :=
  (v.getLsbD 0).toNat + (v.getLsbD 1).toNat + (v.getLsbD 2).toNat + (v.getLsbD 3).toNat
    + (v.getLsbD 4).toNat + (v.getLsbD 5).toNat + (v.getLsbD 6).toNat + (v.getLsbD 7).toNat

/-- True exactly when the number of 1 bits is even (30_encoding.md R86). -/
def parity (v : Byte) : Bool := popcount v % 2 == 0

/-- `SetZSP(v)`: z, s and p from the 8-bit result, cy and ac as before (30_encoding.md R87). -/
def setZsp (v : Byte) (f : Flags) : Flags :=
  { f with z := v == 0, s := v.getLsbD 7, p := parity v }

/-! ## Addition, subtraction, logic -/

/-- The 8-bit result of an ALU operation with the flags it leaves. -/
structure AluResult where
  value : Byte
  flags : Flags
  deriving DecidableEq, Repr

/-- `v & 0x0F` as a number. -/
def lowNibble (v : Byte) : Nat := (v &&& 0x0F#8).toNat

/-- `AddOp(a, b, cin)` (30_encoding.md R88, R89). -/
def addOp (a b : Byte) (cin : Bool) : AluResult :=
  let sum := a.toNat + b.toNat + cin.toNat
  let v := BitVec.ofNat 8 sum
  { value := v
    flags := setZsp v
      { cy := decide (sum > 0xFF)
        ac := decide (lowNibble a + lowNibble b + cin.toNat > 0x0F)
        p := false, z := false, s := false } }

/-- `SubOp(a, b, bin)` (30_encoding.md R90): the carry is a borrow, read off the 16-bit wrapped difference; ac is the carry out of
bit 3 of `a + ~b + (1 - bin)` (decision D4). -/
def subOp (a b : Byte) (bin : Bool) : AluResult :=
  let value16 : Word := BitVec.ofInt 16 ((a.toNat : Int) - b.toNat - bin.toNat)
  let v := lo8 value16
  { value := v
    flags := setZsp v
      { cy := decide (value16.toNat > 0xFF)
        ac := decide (lowNibble a + lowNibble (~~~b) + (1 - bin.toNat) > 0x0F)
        p := false, z := false, s := false } }

/-- `LogicFlags(v)` (30_encoding.md R91): cy and ac false, z, s and p from the result. -/
def logicFlags (v : Byte) : Flags :=
  setZsp v { cy := false, ac := false, p := false, z := false, s := false }

/-- The result of AND, XOR or OR with its flags. -/
def logicOp (v : Byte) : AluResult := { value := v, flags := logicFlags v }

/-- INR: `AddOp(v, 1, 0)` with CY kept (41_arithmetic.md R117, decision D16). -/
def incOp (v : Byte) (f : Flags) : AluResult :=
  { value := (addOp v 1 false).value, flags := { (addOp v 1 false).flags with cy := f.cy } }

/-- DCR: `SubOp(v, 1, 0)` with CY kept (41_arithmetic.md R119, decision D16). -/
def decOp (v : Byte) (f : Flags) : AluResult :=
  { value := (subOp v 1 false).value, flags := { (subOp v 1 false).flags with cy := f.cy } }

/-! ## Pair addition -/

/-- DAD: the 16-bit sum and the carry out of bit 15 of the unbounded sum (41_arithmetic.md R123). -/
def dadSum (x y : Word) : Word := BitVec.ofNat 16 (x.toNat + y.toNat)

/-- The carry of DAD (41_arithmetic.md R123). -/
def dadCarry (x y : Word) : Bool := decide (x.toNat + y.toNat > 0xFFFF)

/-! ## Decimal adjust -/

/-- DAA (41_arithmetic.md R124, decision D5): step 1 is an 8-bit addition whose carry out of bit 7 is discarded; step 2 looks at
the result of step 1, and recomputes cy from its own sum when it runs. -/
def daaOp (a : Byte) (f : Flags) : AluResult :=
  let fixLow := decide (lowNibble a > 9) || f.ac
  let a1 : Byte := if fixLow then BitVec.ofNat 8 (a.toNat + 6) else a
  let fixHigh := decide ((a1 >>> 4).toNat > 9) || f.cy
  let sum := a1.toNat + 0x60
  let a2 : Byte := if fixHigh then BitVec.ofNat 8 sum else a1
  { value := a2
    flags := setZsp a2
      { f with
        ac := fixLow && decide (lowNibble a + 6 > 0x0F)
        cy := if fixHigh then decide (sum > 0xFF) else f.cy } }

/-! ## Rotates -/

/-- A bit as the byte 0 or 1. -/
def bitByte (b : Bool) : Byte := if b then 1 else 0

/-- A rotated accumulator with the bit rotated out. -/
structure RotateResult where
  value : Byte
  cy : Bool
  deriving DecidableEq, Repr

/-- RLC (43_rotate.md R140). -/
def rlcOp (a : Byte) : RotateResult := { value := (a <<< 1) ||| bitByte (a.getLsbD 7), cy := a.getLsbD 7 }

/-- RRC (43_rotate.md R141). -/
def rrcOp (a : Byte) : RotateResult := { value := (a >>> 1) ||| (bitByte (a.getLsbD 0) <<< 7), cy := a.getLsbD 0 }

/-- RAL (43_rotate.md R142): the old carry enters at bit 0. -/
def ralOp (a : Byte) (cy : Bool) : RotateResult := { value := (a <<< 1) ||| bitByte cy, cy := a.getLsbD 7 }

/-- RAR (43_rotate.md R143): the old carry enters at bit 7. -/
def rarOp (a : Byte) (cy : Bool) : RotateResult := { value := (a >>> 1) ||| (bitByte cy <<< 7), cy := a.getLsbD 0 }

/-! ## The status word -/

/-- `PackPSW(F)`: `s z 0 ac 0 p 1 cy` (10_state.md R24, decision D6). -/
def packPsw (f : Flags) : Byte :=
  (bitByte f.s <<< 7) ||| (bitByte f.z <<< 6) ||| (bitByte f.ac <<< 4) ||| (bitByte f.p <<< 2) ||| 0x02#8 ||| bitByte f.cy

/-- `UnpackPSW(b)`: bits 5, 3 and 1 are ignored (10_state.md R25). -/
def unpackPsw (b : Byte) : Flags :=
  { s := b.getLsbD 7, z := b.getLsbD 6, ac := b.getLsbD 4, p := b.getLsbD 2, cy := b.getLsbD 0 }

end Sys2Proof.Machine
end

