-- ==== Sys2Proof/Machine/Operands.lean ====
section
/-! DEFINITION. The operand forms, and the shared shape of each kind of instruction over them: what the pseudocode of the
instruction rules does to the state, once per shape. -/

namespace Sys2Proof.Machine

/-! ## The operand M and the indirect pairs -/

/-- Reading M: the byte at HL (30_encoding.md R66). -/
def State.readM (s : State) : Byte := s.read (s.pair .hl)

/-- Writing M: the guarded write at HL (30_encoding.md R66). -/
def State.writeM (s : State) (v : Byte) : State := s.write (s.pair .hl) v

/-- The address of LDAX and STAX: BC or DE (40_data_transfer.md R103, R104). -/
def State.indirAddr (s : State) : IndirPair → Word
  | .bc => s.pair .bc
  | .de => s.pair .de

/-! ## Conditions -/

/-- `cond(ccc)` (30_encoding.md R69). -/
def condHolds (f : Flags) : Cond → Bool
  | .nz => !f.z
  | .z => f.z
  | .nc => !f.cy
  | .c => f.cy
  | .po => !f.p
  | .pe => f.p
  | .p => !f.s
  | .m => f.s

/-! ## Data transfer -/

/-- MOV r1,r2 (40_data_transfer.md R93). -/
def State.movReg (s : State) (dst src : Reg) : State := s.setReg dst (s.reg src)

/-- LDA and LDAX: A from the byte at an address (40_data_transfer.md R99, R103). -/
def State.loadA (s : State) (addr : Word) : State := { s with a := s.read addr }

/-- STA and STAX: A to the byte at an address (40_data_transfer.md R100, R104). -/
def State.storeA (s : State) (addr : Word) : State := s.write addr s.a

/-! ## ALU -/

/-- A and all five flags from a result. -/
def State.setAcc (s : State) (r : AluResult) : State := { s with a := r.value, f := r.flags }

/-- The eight ALU operations on A and a source byte (30_encoding.md R70, 41_arithmetic.md R105 to R116, 42_logical.md R125 to
R136); compare discards the result. -/
def State.alu (s : State) (op : AluOp) (v : Byte) : State :=
  match op with
  | .add => s.setAcc (addOp s.a v false)
  | .adc => s.setAcc (addOp s.a v s.f.cy)
  | .sub => s.setAcc (subOp s.a v false)
  | .sbb => s.setAcc (subOp s.a v s.f.cy)
  | .ana => s.setAcc (logicOp (s.a &&& v))
  | .xra => s.setAcc (logicOp (s.a ^^^ v))
  | .ora => s.setAcc (logicOp (s.a ||| v))
  | .cmp => { s with f := (subOp s.a v false).flags }

/-- INR r (41_arithmetic.md R117). -/
def State.incReg (s : State) (r : Reg) : State :=
  { s with f := (incOp (s.reg r) s.f).flags }.setReg r (incOp (s.reg r) s.f).value

/-- DCR r (41_arithmetic.md R119). -/
def State.decReg (s : State) (r : Reg) : State :=
  { s with f := (decOp (s.reg r) s.f).flags }.setReg r (decOp (s.reg r) s.f).value

/-- INR M (41_arithmetic.md R118): the flags are written even when the write is rejected. -/
def State.incM (s : State) : State :=
  { s with f := (incOp s.readM s.f).flags }.writeM (incOp s.readM s.f).value

/-- DCR M (41_arithmetic.md R120): the flags are written even when the write is rejected. -/
def State.decM (s : State) : State :=
  { s with f := (decOp s.readM s.f).flags }.writeM (decOp s.readM s.f).value

/-- INX rp (41_arithmetic.md R121). -/
def State.incRp (s : State) (rp : Rp) : State := s.setRp rp (s.rp rp + 1)

/-- DCX rp (41_arithmetic.md R122). -/
def State.decRp (s : State) (rp : Rp) : State := s.setRp rp (s.rp rp - 1)

/-- DAD rp (41_arithmetic.md R123). -/
def State.dad (s : State) (rp : Rp) : State :=
  { s with f := { s.f with cy := dadCarry (s.pair .hl) (s.rp rp) } }.setPair .hl (dadSum (s.pair .hl) (s.rp rp))

/-- A rotate of A: only A and CY change (43_rotate.md R140 to R143). -/
def State.rotateA (s : State) (r : RotateResult) : State := { s with a := r.value, f := { s.f with cy := r.cy } }

/-! ## Control transfer -/

/-- `pc <- target`. -/
def State.jump (s : State) (target : Word) : State := { s with pc := target }

/-- `if cond: pc <- a16` (44_stack_control.md R146 to R153). -/
def State.jumpIf (s : State) (cond : Cond) (target : Word) : State := if condHolds s.f cond then s.jump target else s

/-- `Push(pc); pc <- a16` (44_stack_control.md R154): pc is past the operand bytes here. -/
def State.call (s : State) (target : Word) : State := (s.push s.pc).jump target

/-- `if cond: Push(pc); pc <- a16` (44_stack_control.md R155 to R162). -/
def State.callIf (s : State) (cond : Cond) (target : Word) : State := if condHolds s.f cond then s.call target else s

/-- `if cond: pc <- Pop()` (44_stack_control.md R164 to R171). -/
def State.retIf (s : State) (cond : Cond) : State := if condHolds s.f cond then s.popPc else s

/-! ## Stack and exchange -/

/-- POP rp (44_stack_control.md R176). -/
def State.popPair (s : State) (p : Pair) : State := s.dropTop.setPair p s.top

/-- PUSH PSW (44_stack_control.md R175): A in the high byte (decision D7). -/
def State.pushPsw (s : State) : State := s.push (joinBytes s.a (packPsw s.f))

/-- POP PSW (44_stack_control.md R177). -/
def State.popPsw (s : State) : State := { s.dropTop with a := hi8 s.top, f := unpackPsw (lo8 s.top) }

/-- XTHL (44_stack_control.md R178): both bytes are read before either is written. -/
def State.xthl (s : State) : State :=
  { (s.write s.sp s.l).write (s.sp + 1) s.h with l := s.read s.sp, h := s.read (s.sp + 1) }

/-- XCHG (44_stack_control.md R180). -/
def State.xchg (s : State) : State := { s with h := s.d, l := s.e, d := s.h, e := s.l }

end Sys2Proof.Machine
end

