-- ==== Sys2Proof/Machine/Arithmetic.lean ====
section
/-! DEFINITION. The meanings of 41_arithmetic.md: ADD, ADC, SUB, SBB with their immediate forms, INR, DCR, INX, DCX, DAD, DAA. -/

namespace Sys2Proof.Machine

/-- ADD B (R105). -/
def execAddB (s : State) : Result := .next (s.alu .add (s.reg .b))

/-- ADD C (R105). -/
def execAddC (s : State) : Result := .next (s.alu .add (s.reg .c))

/-- ADD D (R105). -/
def execAddD (s : State) : Result := .next (s.alu .add (s.reg .d))

/-- ADD E (R105). -/
def execAddE (s : State) : Result := .next (s.alu .add (s.reg .e))

/-- ADD H (R105). -/
def execAddH (s : State) : Result := .next (s.alu .add (s.reg .h))

/-- ADD L (R105). -/
def execAddL (s : State) : Result := .next (s.alu .add (s.reg .l))

/-- ADD A (R105). -/
def execAddA (s : State) : Result := .next (s.alu .add (s.reg .a))

/-- ADD M (R106). -/
def execAddM (s : State) : Result := .next (s.alu .add s.readM)

/-- ADI d8 (R107). -/
def execAdi (d8 : Byte) (s : State) : Result := .next (s.alu .add d8)

/-- ADC B (R108). -/
def execAdcB (s : State) : Result := .next (s.alu .adc (s.reg .b))

/-- ADC C (R108). -/
def execAdcC (s : State) : Result := .next (s.alu .adc (s.reg .c))

/-- ADC D (R108). -/
def execAdcD (s : State) : Result := .next (s.alu .adc (s.reg .d))

/-- ADC E (R108). -/
def execAdcE (s : State) : Result := .next (s.alu .adc (s.reg .e))

/-- ADC H (R108). -/
def execAdcH (s : State) : Result := .next (s.alu .adc (s.reg .h))

/-- ADC L (R108). -/
def execAdcL (s : State) : Result := .next (s.alu .adc (s.reg .l))

/-- ADC A (R108). -/
def execAdcA (s : State) : Result := .next (s.alu .adc (s.reg .a))

/-- ADC M (R109). -/
def execAdcM (s : State) : Result := .next (s.alu .adc s.readM)

/-- ACI d8 (R110). -/
def execAci (d8 : Byte) (s : State) : Result := .next (s.alu .adc d8)

/-- SUB B (R111). -/
def execSubB (s : State) : Result := .next (s.alu .sub (s.reg .b))

/-- SUB C (R111). -/
def execSubC (s : State) : Result := .next (s.alu .sub (s.reg .c))

/-- SUB D (R111). -/
def execSubD (s : State) : Result := .next (s.alu .sub (s.reg .d))

/-- SUB E (R111). -/
def execSubE (s : State) : Result := .next (s.alu .sub (s.reg .e))

/-- SUB H (R111). -/
def execSubH (s : State) : Result := .next (s.alu .sub (s.reg .h))

/-- SUB L (R111). -/
def execSubL (s : State) : Result := .next (s.alu .sub (s.reg .l))

/-- SUB A (R111). -/
def execSubA (s : State) : Result := .next (s.alu .sub (s.reg .a))

/-- SUB M (R112). -/
def execSubM (s : State) : Result := .next (s.alu .sub s.readM)

/-- SUI d8 (R113). -/
def execSui (d8 : Byte) (s : State) : Result := .next (s.alu .sub d8)

/-- SBB B (R114). -/
def execSbbB (s : State) : Result := .next (s.alu .sbb (s.reg .b))

/-- SBB C (R114). -/
def execSbbC (s : State) : Result := .next (s.alu .sbb (s.reg .c))

/-- SBB D (R114). -/
def execSbbD (s : State) : Result := .next (s.alu .sbb (s.reg .d))

/-- SBB E (R114). -/
def execSbbE (s : State) : Result := .next (s.alu .sbb (s.reg .e))

/-- SBB H (R114). -/
def execSbbH (s : State) : Result := .next (s.alu .sbb (s.reg .h))

/-- SBB L (R114). -/
def execSbbL (s : State) : Result := .next (s.alu .sbb (s.reg .l))

/-- SBB A (R114). -/
def execSbbA (s : State) : Result := .next (s.alu .sbb (s.reg .a))

/-- SBB M (R115). -/
def execSbbM (s : State) : Result := .next (s.alu .sbb s.readM)

/-- SBI d8 (R116). -/
def execSbi (d8 : Byte) (s : State) : Result := .next (s.alu .sbb d8)

/-- INR B (R117). -/
def execInrB (s : State) : Result := .next (s.incReg .b)

/-- INR C (R117). -/
def execInrC (s : State) : Result := .next (s.incReg .c)

/-- INR D (R117). -/
def execInrD (s : State) : Result := .next (s.incReg .d)

/-- INR E (R117). -/
def execInrE (s : State) : Result := .next (s.incReg .e)

/-- INR H (R117). -/
def execInrH (s : State) : Result := .next (s.incReg .h)

/-- INR L (R117). -/
def execInrL (s : State) : Result := .next (s.incReg .l)

/-- INR A (R117). -/
def execInrA (s : State) : Result := .next (s.incReg .a)

/-- INR M (R118). -/
def execInrM (s : State) : Result := .next s.incM

/-- DCR B (R119). -/
def execDcrB (s : State) : Result := .next (s.decReg .b)

/-- DCR C (R119). -/
def execDcrC (s : State) : Result := .next (s.decReg .c)

/-- DCR D (R119). -/
def execDcrD (s : State) : Result := .next (s.decReg .d)

/-- DCR E (R119). -/
def execDcrE (s : State) : Result := .next (s.decReg .e)

/-- DCR H (R119). -/
def execDcrH (s : State) : Result := .next (s.decReg .h)

/-- DCR L (R119). -/
def execDcrL (s : State) : Result := .next (s.decReg .l)

/-- DCR A (R119). -/
def execDcrA (s : State) : Result := .next (s.decReg .a)

/-- DCR M (R120). -/
def execDcrM (s : State) : Result := .next s.decM

/-- INX B (R121). -/
def execInxB (s : State) : Result := .next (s.incRp .bc)

/-- INX D (R121). -/
def execInxD (s : State) : Result := .next (s.incRp .de)

/-- INX H (R121). -/
def execInxH (s : State) : Result := .next (s.incRp .hl)

/-- INX SP (R121). -/
def execInxSp (s : State) : Result := .next (s.incRp .sp)

/-- DCX B (R122). -/
def execDcxB (s : State) : Result := .next (s.decRp .bc)

/-- DCX D (R122). -/
def execDcxD (s : State) : Result := .next (s.decRp .de)

/-- DCX H (R122). -/
def execDcxH (s : State) : Result := .next (s.decRp .hl)

/-- DCX SP (R122). -/
def execDcxSp (s : State) : Result := .next (s.decRp .sp)

/-- DAD B (R123). -/
def execDadB (s : State) : Result := .next (s.dad .bc)

/-- DAD D (R123). -/
def execDadD (s : State) : Result := .next (s.dad .de)

/-- DAD H (R123). -/
def execDadH (s : State) : Result := .next (s.dad .hl)

/-- DAD SP (R123). -/
def execDadSp (s : State) : Result := .next (s.dad .sp)

/-- DAA (R124). -/
def execDaa (s : State) : Result := .next (s.setAcc (daaOp s.a s.f))

end Sys2Proof.Machine
end

