-- ==== Sys2Proof/Machine/Control.lean ====
section
/-! DEFINITION. The meanings of 44_stack_control.md: jumps, calls, returns, restarts, PCHL, PUSH, POP, XTHL, SPHL, XCHG. pc is past the operand bytes when one
of these executes (`State.beginStep`). -/

namespace Sys2Proof.Machine

/-- JMP a16 (R145). -/
def execJmp (a16 : Word) (s : State) : Result := .next (s.jump a16)

/-- JNZ a16 (R146). -/
def execJnz (a16 : Word) (s : State) : Result := .next (s.jumpIf .nz a16)

/-- JZ a16 (R147). -/
def execJz (a16 : Word) (s : State) : Result := .next (s.jumpIf .z a16)

/-- JNC a16 (R148). -/
def execJnc (a16 : Word) (s : State) : Result := .next (s.jumpIf .nc a16)

/-- JC a16 (R149). -/
def execJc (a16 : Word) (s : State) : Result := .next (s.jumpIf .c a16)

/-- JPO a16 (R150). -/
def execJpo (a16 : Word) (s : State) : Result := .next (s.jumpIf .po a16)

/-- JPE a16 (R151). -/
def execJpe (a16 : Word) (s : State) : Result := .next (s.jumpIf .pe a16)

/-- JP a16 (R152). -/
def execJp (a16 : Word) (s : State) : Result := .next (s.jumpIf .p a16)

/-- JM a16 (R153). -/
def execJm (a16 : Word) (s : State) : Result := .next (s.jumpIf .m a16)

/-- CALL a16 (R154). -/
def execCall (a16 : Word) (s : State) : Result := .next (s.call a16)

/-- CNZ a16 (R155). -/
def execCnz (a16 : Word) (s : State) : Result := .next (s.callIf .nz a16)

/-- CZ a16 (R156). -/
def execCz (a16 : Word) (s : State) : Result := .next (s.callIf .z a16)

/-- CNC a16 (R157). -/
def execCnc (a16 : Word) (s : State) : Result := .next (s.callIf .nc a16)

/-- CC a16 (R158). -/
def execCc (a16 : Word) (s : State) : Result := .next (s.callIf .c a16)

/-- CPO a16 (R159). -/
def execCpo (a16 : Word) (s : State) : Result := .next (s.callIf .po a16)

/-- CPE a16 (R160). -/
def execCpe (a16 : Word) (s : State) : Result := .next (s.callIf .pe a16)

/-- CP a16 (R161). -/
def execCp (a16 : Word) (s : State) : Result := .next (s.callIf .p a16)

/-- CM a16 (R162). -/
def execCm (a16 : Word) (s : State) : Result := .next (s.callIf .m a16)

/-- RET (R163). -/
def execRet (s : State) : Result := .next s.popPc

/-- RNZ (R164). -/
def execRnz (s : State) : Result := .next (s.retIf .nz)

/-- RZ (R165). -/
def execRz (s : State) : Result := .next (s.retIf .z)

/-- RNC (R166). -/
def execRnc (s : State) : Result := .next (s.retIf .nc)

/-- RC (R167). -/
def execRc (s : State) : Result := .next (s.retIf .c)

/-- RPO (R168). -/
def execRpo (s : State) : Result := .next (s.retIf .po)

/-- RPE (R169). -/
def execRpe (s : State) : Result := .next (s.retIf .pe)

/-- RP (R170). -/
def execRp (s : State) : Result := .next (s.retIf .p)

/-- RM (R171). -/
def execRm (s : State) : Result := .next (s.retIf .m)

/-- RST 0 (R172). -/
def execRst0 (s : State) : Result := .next (s.restart 0)

/-- RST 1 (R172). -/
def execRst1 (s : State) : Result := .next (s.restart 1)

/-- RST 2 (R172). -/
def execRst2 (s : State) : Result := .next (s.restart 2)

/-- RST 3 (R172). -/
def execRst3 (s : State) : Result := .next (s.restart 3)

/-- RST 4 (R172). -/
def execRst4 (s : State) : Result := .next (s.restart 4)

/-- RST 5 (R172). -/
def execRst5 (s : State) : Result := .next (s.restart 5)

/-- RST 6 (R172). -/
def execRst6 (s : State) : Result := .next (s.restart 6)

/-- RST 7 (R172). -/
def execRst7 (s : State) : Result := .next (s.restart 7)

/-- PCHL (R173). -/
def execPchl (s : State) : Result := .next (s.jump (s.pair .hl))

/-- PUSH B (R174). -/
def execPushB (s : State) : Result := .next (s.push (s.pair .bc))

/-- PUSH D (R174). -/
def execPushD (s : State) : Result := .next (s.push (s.pair .de))

/-- PUSH H (R174). -/
def execPushH (s : State) : Result := .next (s.push (s.pair .hl))

/-- PUSH PSW (R175). -/
def execPushPsw (s : State) : Result := .next s.pushPsw

/-- POP B (R176). -/
def execPopB (s : State) : Result := .next (s.popPair .bc)

/-- POP D (R176). -/
def execPopD (s : State) : Result := .next (s.popPair .de)

/-- POP H (R176). -/
def execPopH (s : State) : Result := .next (s.popPair .hl)

/-- POP PSW (R177). -/
def execPopPsw (s : State) : Result := .next s.popPsw

/-- XTHL (R178). -/
def execXthl (s : State) : Result := .next s.xthl

/-- SPHL (R179). -/
def execSphl (s : State) : Result := .next { s with sp := s.pair .hl }

/-- XCHG (R180). -/
def execXchg (s : State) : Result := .next s.xchg

end Sys2Proof.Machine
end

