-- ==== Sys2Proof/Machine/DataTransfer.lean ====
section
/-! DEFINITION. The meanings of 40_data_transfer.md: MOV, MVI, LXI, LDA, STA, LHLD, SHLD, LDAX, STAX. No flag is written. -/

namespace Sys2Proof.Machine

/-- MOV B,B (R93). -/
def execMovBB (s : State) : Result := .next (s.movReg .b .b)

/-- MOV B,C (R93). -/
def execMovBC (s : State) : Result := .next (s.movReg .b .c)

/-- MOV B,D (R93). -/
def execMovBD (s : State) : Result := .next (s.movReg .b .d)

/-- MOV B,E (R93). -/
def execMovBE (s : State) : Result := .next (s.movReg .b .e)

/-- MOV B,H (R93). -/
def execMovBH (s : State) : Result := .next (s.movReg .b .h)

/-- MOV B,L (R93). -/
def execMovBL (s : State) : Result := .next (s.movReg .b .l)

/-- MOV B,A (R93). -/
def execMovBA (s : State) : Result := .next (s.movReg .b .a)

/-- MOV C,B (R93). -/
def execMovCB (s : State) : Result := .next (s.movReg .c .b)

/-- MOV C,C (R93). -/
def execMovCC (s : State) : Result := .next (s.movReg .c .c)

/-- MOV C,D (R93). -/
def execMovCD (s : State) : Result := .next (s.movReg .c .d)

/-- MOV C,E (R93). -/
def execMovCE (s : State) : Result := .next (s.movReg .c .e)

/-- MOV C,H (R93). -/
def execMovCH (s : State) : Result := .next (s.movReg .c .h)

/-- MOV C,L (R93). -/
def execMovCL (s : State) : Result := .next (s.movReg .c .l)

/-- MOV C,A (R93). -/
def execMovCA (s : State) : Result := .next (s.movReg .c .a)

/-- MOV D,B (R93). -/
def execMovDB (s : State) : Result := .next (s.movReg .d .b)

/-- MOV D,C (R93). -/
def execMovDC (s : State) : Result := .next (s.movReg .d .c)

/-- MOV D,D (R93). -/
def execMovDD (s : State) : Result := .next (s.movReg .d .d)

/-- MOV D,E (R93). -/
def execMovDE (s : State) : Result := .next (s.movReg .d .e)

/-- MOV D,H (R93). -/
def execMovDH (s : State) : Result := .next (s.movReg .d .h)

/-- MOV D,L (R93). -/
def execMovDL (s : State) : Result := .next (s.movReg .d .l)

/-- MOV D,A (R93). -/
def execMovDA (s : State) : Result := .next (s.movReg .d .a)

/-- MOV E,B (R93). -/
def execMovEB (s : State) : Result := .next (s.movReg .e .b)

/-- MOV E,C (R93). -/
def execMovEC (s : State) : Result := .next (s.movReg .e .c)

/-- MOV E,D (R93). -/
def execMovED (s : State) : Result := .next (s.movReg .e .d)

/-- MOV E,E (R93). -/
def execMovEE (s : State) : Result := .next (s.movReg .e .e)

/-- MOV E,H (R93). -/
def execMovEH (s : State) : Result := .next (s.movReg .e .h)

/-- MOV E,L (R93). -/
def execMovEL (s : State) : Result := .next (s.movReg .e .l)

/-- MOV E,A (R93). -/
def execMovEA (s : State) : Result := .next (s.movReg .e .a)

/-- MOV H,B (R93). -/
def execMovHB (s : State) : Result := .next (s.movReg .h .b)

/-- MOV H,C (R93). -/
def execMovHC (s : State) : Result := .next (s.movReg .h .c)

/-- MOV H,D (R93). -/
def execMovHD (s : State) : Result := .next (s.movReg .h .d)

/-- MOV H,E (R93). -/
def execMovHE (s : State) : Result := .next (s.movReg .h .e)

/-- MOV H,H (R93). -/
def execMovHH (s : State) : Result := .next (s.movReg .h .h)

/-- MOV H,L (R93). -/
def execMovHL (s : State) : Result := .next (s.movReg .h .l)

/-- MOV H,A (R93). -/
def execMovHA (s : State) : Result := .next (s.movReg .h .a)

/-- MOV L,B (R93). -/
def execMovLB (s : State) : Result := .next (s.movReg .l .b)

/-- MOV L,C (R93). -/
def execMovLC (s : State) : Result := .next (s.movReg .l .c)

/-- MOV L,D (R93). -/
def execMovLD (s : State) : Result := .next (s.movReg .l .d)

/-- MOV L,E (R93). -/
def execMovLE (s : State) : Result := .next (s.movReg .l .e)

/-- MOV L,H (R93). -/
def execMovLH (s : State) : Result := .next (s.movReg .l .h)

/-- MOV L,L (R93). -/
def execMovLL (s : State) : Result := .next (s.movReg .l .l)

/-- MOV L,A (R93). -/
def execMovLA (s : State) : Result := .next (s.movReg .l .a)

/-- MOV A,B (R93). -/
def execMovAB (s : State) : Result := .next (s.movReg .a .b)

/-- MOV A,C (R93). -/
def execMovAC (s : State) : Result := .next (s.movReg .a .c)

/-- MOV A,D (R93). -/
def execMovAD (s : State) : Result := .next (s.movReg .a .d)

/-- MOV A,E (R93). -/
def execMovAE (s : State) : Result := .next (s.movReg .a .e)

/-- MOV A,H (R93). -/
def execMovAH (s : State) : Result := .next (s.movReg .a .h)

/-- MOV A,L (R93). -/
def execMovAL (s : State) : Result := .next (s.movReg .a .l)

/-- MOV A,A (R93). -/
def execMovAA (s : State) : Result := .next (s.movReg .a .a)

/-- MOV B,M (R94). -/
def execMovBM (s : State) : Result := .next (s.setReg .b s.readM)

/-- MOV C,M (R94). -/
def execMovCM (s : State) : Result := .next (s.setReg .c s.readM)

/-- MOV D,M (R94). -/
def execMovDM (s : State) : Result := .next (s.setReg .d s.readM)

/-- MOV E,M (R94). -/
def execMovEM (s : State) : Result := .next (s.setReg .e s.readM)

/-- MOV H,M (R94). -/
def execMovHM (s : State) : Result := .next (s.setReg .h s.readM)

/-- MOV L,M (R94). -/
def execMovLM (s : State) : Result := .next (s.setReg .l s.readM)

/-- MOV A,M (R94). -/
def execMovAM (s : State) : Result := .next (s.setReg .a s.readM)

/-- MOV M,B (R95). -/
def execMovMB (s : State) : Result := .next (s.writeM (s.reg .b))

/-- MOV M,C (R95). -/
def execMovMC (s : State) : Result := .next (s.writeM (s.reg .c))

/-- MOV M,D (R95). -/
def execMovMD (s : State) : Result := .next (s.writeM (s.reg .d))

/-- MOV M,E (R95). -/
def execMovME (s : State) : Result := .next (s.writeM (s.reg .e))

/-- MOV M,H (R95). -/
def execMovMH (s : State) : Result := .next (s.writeM (s.reg .h))

/-- MOV M,L (R95). -/
def execMovML (s : State) : Result := .next (s.writeM (s.reg .l))

/-- MOV M,A (R95). -/
def execMovMA (s : State) : Result := .next (s.writeM (s.reg .a))

/-- MVI B,d8 (R96). -/
def execMviB (d8 : Byte) (s : State) : Result := .next (s.setReg .b d8)

/-- MVI C,d8 (R96). -/
def execMviC (d8 : Byte) (s : State) : Result := .next (s.setReg .c d8)

/-- MVI D,d8 (R96). -/
def execMviD (d8 : Byte) (s : State) : Result := .next (s.setReg .d d8)

/-- MVI E,d8 (R96). -/
def execMviE (d8 : Byte) (s : State) : Result := .next (s.setReg .e d8)

/-- MVI H,d8 (R96). -/
def execMviH (d8 : Byte) (s : State) : Result := .next (s.setReg .h d8)

/-- MVI L,d8 (R96). -/
def execMviL (d8 : Byte) (s : State) : Result := .next (s.setReg .l d8)

/-- MVI A,d8 (R96). -/
def execMviA (d8 : Byte) (s : State) : Result := .next (s.setReg .a d8)

/-- MVI M,d8 (R97). -/
def execMviM (d8 : Byte) (s : State) : Result := .next (s.writeM d8)

/-- LXI B,d16 (R98). -/
def execLxiB (d16 : Word) (s : State) : Result := .next (s.setRp .bc d16)

/-- LXI D,d16 (R98). -/
def execLxiD (d16 : Word) (s : State) : Result := .next (s.setRp .de d16)

/-- LXI H,d16 (R98). -/
def execLxiH (d16 : Word) (s : State) : Result := .next (s.setRp .hl d16)

/-- LXI SP,d16 (R98). -/
def execLxiSp (d16 : Word) (s : State) : Result := .next (s.setRp .sp d16)

/-- LDA a16 (R99). -/
def execLda (a16 : Word) (s : State) : Result := .next (s.loadA a16)

/-- STA a16 (R100). -/
def execSta (a16 : Word) (s : State) : Result := .next (s.storeA a16)

/-- LHLD a16 (R101). -/
def execLhld (a16 : Word) (s : State) : Result := .next (s.setPair .hl (s.read16 a16))

/-- SHLD a16 (R102). -/
def execShld (a16 : Word) (s : State) : Result := .next (s.write16 a16 (s.pair .hl))

/-- LDAX B (R103). -/
def execLdaxB (s : State) : Result := .next (s.loadA (s.indirAddr .bc))

/-- LDAX D (R103). -/
def execLdaxD (s : State) : Result := .next (s.loadA (s.indirAddr .de))

/-- STAX B (R104). -/
def execStaxB (s : State) : Result := .next (s.storeA (s.indirAddr .bc))

/-- STAX D (R104). -/
def execStaxD (s : State) : Result := .next (s.storeA (s.indirAddr .de))

end Sys2Proof.Machine
end

