-- ==== Sys2Proof/Machine/Flow.lean ====
section
/-! DEFINITION. The meanings of 45_flow_interrupt.md: EI, DI, HLT, IN, OUT, NOP; and the decode failure of an unrecognised byte (60_exceptions.md R188). -/

namespace Sys2Proof.Machine

/-- EI (R181). -/
def execEi (s : State) : Result := .next { s with ie := true }

/-- DI (R182). -/
def execDi (s : State) : Result := .next { s with ie := false }

/-- HLT is "treated as a no-op placeholder": nothing; `ie` is not read (R183). -/
def execHlt (s : State) : Result := .next s

/-- IN consumes its operand byte and does nothing else: A is not written, no port is read (R184). -/
def execInPort (_port : Byte) (s : State) : Result := .next s

/-- OUT consumes its operand byte and does nothing else (R185). -/
def execOutPort (_port : Byte) (s : State) : Result := .next s

/-- Nothing; pc has already advanced (R186). -/
def execNop (s : State) : Result := .next s

/-- An opcode byte with no assigned behaviour: the decode failure (60_exceptions.md R188, R189). -/
def execUnrecognised (op : Byte) (s : State) : Result := s.decodeFailure op

end Sys2Proof.Machine
end

