-- ==== Sys2Proof/Machine/Logical.lean ====
section
/-! DEFINITION. The meanings of 42_logical.md: ANA, XRA, ORA, CMP with their immediate forms, CMA, STC, CMC. -/

namespace Sys2Proof.Machine

/-- ANA B (R125). -/
def execAnaB (s : State) : Result := .next (s.alu .ana (s.reg .b))

/-- ANA C (R125). -/
def execAnaC (s : State) : Result := .next (s.alu .ana (s.reg .c))

/-- ANA D (R125). -/
def execAnaD (s : State) : Result := .next (s.alu .ana (s.reg .d))

/-- ANA E (R125). -/
def execAnaE (s : State) : Result := .next (s.alu .ana (s.reg .e))

/-- ANA H (R125). -/
def execAnaH (s : State) : Result := .next (s.alu .ana (s.reg .h))

/-- ANA L (R125). -/
def execAnaL (s : State) : Result := .next (s.alu .ana (s.reg .l))

/-- ANA A (R125). -/
def execAnaA (s : State) : Result := .next (s.alu .ana (s.reg .a))

/-- ANA M (R126). -/
def execAnaM (s : State) : Result := .next (s.alu .ana s.readM)

/-- ANI d8 (R127). -/
def execAni (d8 : Byte) (s : State) : Result := .next (s.alu .ana d8)

/-- XRA B (R128). -/
def execXraB (s : State) : Result := .next (s.alu .xra (s.reg .b))

/-- XRA C (R128). -/
def execXraC (s : State) : Result := .next (s.alu .xra (s.reg .c))

/-- XRA D (R128). -/
def execXraD (s : State) : Result := .next (s.alu .xra (s.reg .d))

/-- XRA E (R128). -/
def execXraE (s : State) : Result := .next (s.alu .xra (s.reg .e))

/-- XRA H (R128). -/
def execXraH (s : State) : Result := .next (s.alu .xra (s.reg .h))

/-- XRA L (R128). -/
def execXraL (s : State) : Result := .next (s.alu .xra (s.reg .l))

/-- XRA A (R128). -/
def execXraA (s : State) : Result := .next (s.alu .xra (s.reg .a))

/-- XRA M (R129). -/
def execXraM (s : State) : Result := .next (s.alu .xra s.readM)

/-- XRI d8 (R130). -/
def execXri (d8 : Byte) (s : State) : Result := .next (s.alu .xra d8)

/-- ORA B (R131). -/
def execOraB (s : State) : Result := .next (s.alu .ora (s.reg .b))

/-- ORA C (R131). -/
def execOraC (s : State) : Result := .next (s.alu .ora (s.reg .c))

/-- ORA D (R131). -/
def execOraD (s : State) : Result := .next (s.alu .ora (s.reg .d))

/-- ORA E (R131). -/
def execOraE (s : State) : Result := .next (s.alu .ora (s.reg .e))

/-- ORA H (R131). -/
def execOraH (s : State) : Result := .next (s.alu .ora (s.reg .h))

/-- ORA L (R131). -/
def execOraL (s : State) : Result := .next (s.alu .ora (s.reg .l))

/-- ORA A (R131). -/
def execOraA (s : State) : Result := .next (s.alu .ora (s.reg .a))

/-- ORA M (R132). -/
def execOraM (s : State) : Result := .next (s.alu .ora s.readM)

/-- ORI d8 (R133). -/
def execOri (d8 : Byte) (s : State) : Result := .next (s.alu .ora d8)

/-- CMP B (R134). -/
def execCmpB (s : State) : Result := .next (s.alu .cmp (s.reg .b))

/-- CMP C (R134). -/
def execCmpC (s : State) : Result := .next (s.alu .cmp (s.reg .c))

/-- CMP D (R134). -/
def execCmpD (s : State) : Result := .next (s.alu .cmp (s.reg .d))

/-- CMP E (R134). -/
def execCmpE (s : State) : Result := .next (s.alu .cmp (s.reg .e))

/-- CMP H (R134). -/
def execCmpH (s : State) : Result := .next (s.alu .cmp (s.reg .h))

/-- CMP L (R134). -/
def execCmpL (s : State) : Result := .next (s.alu .cmp (s.reg .l))

/-- CMP A (R134). -/
def execCmpA (s : State) : Result := .next (s.alu .cmp (s.reg .a))

/-- CMP M (R135). -/
def execCmpM (s : State) : Result := .next (s.alu .cmp s.readM)

/-- CPI d8 (R136). -/
def execCpi (d8 : Byte) (s : State) : Result := .next (s.alu .cmp d8)

/-- CMA (R137). -/
def execCma (s : State) : Result := .next { s with a := ~~~s.a }

/-- STC (R138). -/
def execStc (s : State) : Result := .next { s with f := { s.f with cy := true } }

/-- CMC (R139). -/
def execCmc (s : State) : Result := .next { s with f := { s.f with cy := !s.f.cy } }

end Sys2Proof.Machine
end

