-- ==== Sys2Proof/Machine/Rotate.lean ====
section
/-! DEFINITION. The meanings of 43_rotate.md: RLC, RRC, RAL, RAR. -/

namespace Sys2Proof.Machine

/-- RLC (R140). -/
def execRlc (s : State) : Result := .next (s.rotateA (rlcOp s.a))

/-- RRC (R141). -/
def execRrc (s : State) : Result := .next (s.rotateA (rrcOp s.a))

/-- RAL (R142). -/
def execRal (s : State) : Result := .next (s.rotateA (ralOp s.a s.f.cy))

/-- RAR (R143). -/
def execRar (s : State) : Result := .next (s.rotateA (rarOp s.a s.f.cy))

end Sys2Proof.Machine
end

