-- ==== Sys2Proof/Machine/Step.lean ====
section
/-! DEFINITION. One step of the core, and the placing of an instruction where the next step fetches it. -/

namespace Sys2Proof.Machine

/-- `Step(s)` (30_encoding.md R72): fetch and decode the instruction at pc, execute it with pc past its bytes and an empty event
list, and return the cost of its opcode byte. -/
def step (s : State) : Host.Outcome State Fault Refusal :=
  finishStep (s.fetchByte 0) (exec s.fetchInstr s.beginStep)

/-- The address of byte `k` of the instruction at pc (10_state.md R21). -/
def State.fetchAddr (s : State) (k : Nat) : Nat := (s.pc + BitVec.ofNat 16 k).toNat

/-- `s` with the table word `w` of `nbits` bits at pc, followed by zero operand bytes (three bytes in all). The bytes are stored as
the loader stores them, past the Memory Guard (70_reset_and_hazards.md R209, log 8); nothing else changes. -/
def State.withFetchWord (s : State) (nbits w : Nat) : State :=
  { s with
    mem := ((s.mem.write (s.fetchAddr 0) (tableByte nbits w 0)).write (s.fetchAddr 1) (tableByte nbits w 1)).write
      (s.fetchAddr 2) (tableByte nbits w 2) }

end Sys2Proof.Machine
end

