-- ==== Sys2Proof/Machine/Disassembler.lean ====
section
/-! DEFINITION. What the spec fixes of the disassembler that the core uses on a decode failure (30_encoding.md R83, R85,
60_exceptions.md R189): the mnemonic, the operand bytes and the length. It gives no text format (U8), so there is none here (log 10). -/

namespace Sys2Proof.Machine

/-- The mnemonic with its register operands, in Intel syntax (30_encoding.md R83); an unrecognised opcode is "unknown" (R64). -/
def mnemonicOf : Instr → String
  | .unrecognised _ => "unknown"
  | .nop => "NOP" | .lxiB _ => "LXI B" | .staxB => "STAX B" | .inxB => "INX B" | .inrB => "INR B" | .dcrB => "DCR B"
  | .mviB _ => "MVI B" | .rlc => "RLC" | .dadB => "DAD B" | .ldaxB => "LDAX B" | .dcxB => "DCX B" | .inrC => "INR C"
  | .dcrC => "DCR C" | .mviC _ => "MVI C" | .rrc => "RRC" | .lxiD _ => "LXI D" | .staxD => "STAX D"
  | .inxD => "INX D" | .inrD => "INR D" | .dcrD => "DCR D" | .mviD _ => "MVI D" | .ral => "RAL" | .dadD => "DAD D"
  | .ldaxD => "LDAX D" | .dcxD => "DCX D" | .inrE => "INR E" | .dcrE => "DCR E" | .mviE _ => "MVI E" | .rar => "RAR"
  | .lxiH _ => "LXI H" | .shld _ => "SHLD" | .inxH => "INX H" | .inrH => "INR H" | .dcrH => "DCR H"
  | .mviH _ => "MVI H" | .daa => "DAA" | .dadH => "DAD H" | .lhld _ => "LHLD" | .dcxH => "DCX H" | .inrL => "INR L"
  | .dcrL => "DCR L" | .mviL _ => "MVI L" | .cma => "CMA" | .lxiSp _ => "LXI SP" | .sta _ => "STA"
  | .inxSp => "INX SP" | .inrM => "INR M" | .dcrM => "DCR M" | .mviM _ => "MVI M" | .stc => "STC"
  | .dadSp => "DAD SP" | .lda _ => "LDA" | .dcxSp => "DCX SP" | .inrA => "INR A" | .dcrA => "DCR A"
  | .mviA _ => "MVI A" | .cmc => "CMC" | .movBB => "MOV B,B" | .movBC => "MOV B,C" | .movBD => "MOV B,D"
  | .movBE => "MOV B,E" | .movBH => "MOV B,H" | .movBL => "MOV B,L" | .movBM => "MOV B,M" | .movBA => "MOV B,A"
  | .movCB => "MOV C,B" | .movCC => "MOV C,C" | .movCD => "MOV C,D" | .movCE => "MOV C,E" | .movCH => "MOV C,H"
  | .movCL => "MOV C,L" | .movCM => "MOV C,M" | .movCA => "MOV C,A" | .movDB => "MOV D,B" | .movDC => "MOV D,C"
  | .movDD => "MOV D,D" | .movDE => "MOV D,E" | .movDH => "MOV D,H" | .movDL => "MOV D,L" | .movDM => "MOV D,M"
  | .movDA => "MOV D,A" | .movEB => "MOV E,B" | .movEC => "MOV E,C" | .movED => "MOV E,D" | .movEE => "MOV E,E"
  | .movEH => "MOV E,H" | .movEL => "MOV E,L" | .movEM => "MOV E,M" | .movEA => "MOV E,A" | .movHB => "MOV H,B"
  | .movHC => "MOV H,C" | .movHD => "MOV H,D" | .movHE => "MOV H,E" | .movHH => "MOV H,H" | .movHL => "MOV H,L"
  | .movHM => "MOV H,M" | .movHA => "MOV H,A" | .movLB => "MOV L,B" | .movLC => "MOV L,C" | .movLD => "MOV L,D"
  | .movLE => "MOV L,E" | .movLH => "MOV L,H" | .movLL => "MOV L,L" | .movLM => "MOV L,M" | .movLA => "MOV L,A"
  | .movMB => "MOV M,B" | .movMC => "MOV M,C" | .movMD => "MOV M,D" | .movME => "MOV M,E" | .movMH => "MOV M,H"
  | .movML => "MOV M,L" | .hlt => "HLT" | .movMA => "MOV M,A" | .movAB => "MOV A,B" | .movAC => "MOV A,C"
  | .movAD => "MOV A,D" | .movAE => "MOV A,E" | .movAH => "MOV A,H" | .movAL => "MOV A,L" | .movAM => "MOV A,M"
  | .movAA => "MOV A,A" | .addB => "ADD B" | .addC => "ADD C" | .addD => "ADD D" | .addE => "ADD E"
  | .addH => "ADD H" | .addL => "ADD L" | .addM => "ADD M" | .addA => "ADD A" | .adcB => "ADC B" | .adcC => "ADC C"
  | .adcD => "ADC D" | .adcE => "ADC E" | .adcH => "ADC H" | .adcL => "ADC L" | .adcM => "ADC M" | .adcA => "ADC A"
  | .subB => "SUB B" | .subC => "SUB C" | .subD => "SUB D" | .subE => "SUB E" | .subH => "SUB H" | .subL => "SUB L"
  | .subM => "SUB M" | .subA => "SUB A" | .sbbB => "SBB B" | .sbbC => "SBB C" | .sbbD => "SBB D" | .sbbE => "SBB E"
  | .sbbH => "SBB H" | .sbbL => "SBB L" | .sbbM => "SBB M" | .sbbA => "SBB A" | .anaB => "ANA B" | .anaC => "ANA C"
  | .anaD => "ANA D" | .anaE => "ANA E" | .anaH => "ANA H" | .anaL => "ANA L" | .anaM => "ANA M" | .anaA => "ANA A"
  | .xraB => "XRA B" | .xraC => "XRA C" | .xraD => "XRA D" | .xraE => "XRA E" | .xraH => "XRA H" | .xraL => "XRA L"
  | .xraM => "XRA M" | .xraA => "XRA A" | .oraB => "ORA B" | .oraC => "ORA C" | .oraD => "ORA D" | .oraE => "ORA E"
  | .oraH => "ORA H" | .oraL => "ORA L" | .oraM => "ORA M" | .oraA => "ORA A" | .cmpB => "CMP B" | .cmpC => "CMP C"
  | .cmpD => "CMP D" | .cmpE => "CMP E" | .cmpH => "CMP H" | .cmpL => "CMP L" | .cmpM => "CMP M" | .cmpA => "CMP A"
  | .rnz => "RNZ" | .popB => "POP B" | .jnz _ => "JNZ" | .jmp _ => "JMP" | .cnz _ => "CNZ" | .pushB => "PUSH B"
  | .adi _ => "ADI" | .rst0 => "RST 0" | .rz => "RZ" | .ret => "RET" | .jz _ => "JZ" | .cz _ => "CZ"
  | .call _ => "CALL" | .aci _ => "ACI" | .rst1 => "RST 1" | .rnc => "RNC" | .popD => "POP D" | .jnc _ => "JNC"
  | .outPort _ => "OUT" | .cnc _ => "CNC" | .pushD => "PUSH D" | .sui _ => "SUI" | .rst2 => "RST 2" | .rc => "RC"
  | .jc _ => "JC" | .inPort _ => "IN" | .cc _ => "CC" | .sbi _ => "SBI" | .rst3 => "RST 3" | .rpo => "RPO"
  | .popH => "POP H" | .jpo _ => "JPO" | .xthl => "XTHL" | .cpo _ => "CPO" | .pushH => "PUSH H" | .ani _ => "ANI"
  | .rst4 => "RST 4" | .rpe => "RPE" | .pchl => "PCHL" | .jpe _ => "JPE" | .xchg => "XCHG" | .cpe _ => "CPE"
  | .xri _ => "XRI" | .rst5 => "RST 5" | .rp => "RP" | .popPsw => "POP PSW" | .jp _ => "JP" | .di => "DI"
  | .cp _ => "CP" | .pushPsw => "PUSH PSW" | .ori _ => "ORI" | .rst6 => "RST 6" | .rm => "RM" | .sphl => "SPHL"
  | .jm _ => "JM" | .ei => "EI" | .cm _ => "CM" | .cpi _ => "CPI" | .rst7 => "RST 7"

/-- What the disassembler finds at an offset. -/
structure Disassembly where
  mnemonic : String
  operands : List Byte
  length : Nat
  deriving DecidableEq, Repr

/-- The disassembler: a pure function of the memory image and an offset, which never fails (30_encoding.md R85). -/
def disassemble (m : Memory) (offset : Word) : Disassembly :=
  let byteAt (k : Nat) : Byte := m.read (offset + BitVec.ofNat 16 k).toNat
  let i := decodeOpcode (byteAt 0) (byteAt 1) (byteAt 2)
  { mnemonic := mnemonicOf i, operands := i.operandBytes, length := opcodeLength (byteAt 0) }

end Sys2Proof.Machine
end

