-- ==== Sys2Proof/Machine/Driver.lean ====
section
/-! DEFINITION. The host interface of 60_exceptions.md R205: creating the state, and a run of the driver as a list of the actions
that the table names. The core does none of this itself (60_exceptions.md R193). -/

namespace Sys2Proof.Machine

/-- The loader's raw writes: the bytes of the image at rising addresses from `k` on, past the Memory Guard
(70_reset_and_hazards.md R209). -/
def Memory.load (m : Memory) (k : Nat) : List Byte → Memory
  | [] => m
  | v :: image => (Memory.write m k v).load (k + 1) image

/-- The driver's `create` (60_exceptions.md R205): the reset state of 10_state.md R35 for any value of the parameters, with the
image at address 0 over the launch contents `initMem` of memory. An image longer than the address space creates no state
(70_reset_and_hazards.md R209). -/
def State.create (map : MemoryMap) (entryPc initSp : Word) (initMem : Memory) (image : List Byte) : Option State :=
  if image.length ≤ 65536 then
    some { State.reset with pc := entryPc, sp := initSp, map := map, mem := initMem.load 0 image }
  else none

/-- What the driver can do after `create` (60_exceptions.md R205). -/
inductive DriverAction where
  | step
  | injectRst (n : Fin 8)
  | stop
  deriving DecidableEq, Repr

/-- What the driver gets back from an action (60_exceptions.md R205). -/
inductive DriverReply where
  | ok (cycles : Option Nat) (events : List WriteRejected)
  | decodeFailure (addr : Word) (op : Byte)
  | injected (events : List WriteRejected)
  | refused (r : Refusal)
  deriving DecidableEq, Repr

/-- A run of the driver: the state at its end and the replies in order. It ends at a decode failure with the state unchanged, at
`stop`, or with the list (60_exceptions.md R206). -/
def drive : List DriverAction → State → State × List DriverReply
  | [], s => (s, [])
  | .stop :: _, s => (s, [])
  | .injectRst n :: rest, s =>
    let t := s.injectRst n
    ((drive rest t).1, .injected t.events :: (drive rest t).2)
  | .step :: rest, s =>
    match step s with
    | .next t => ((drive rest t).1, .ok t.cost t.events :: (drive rest t).2)
    | .fault (.decodeFailure addr op) => (s, [.decodeFailure addr op])
    | .refused r => (s, [.refused r])

end Sys2Proof.Machine
end

