-- ==== Sys2Proof/Safety.lean ====
section
/-! DEFINITION. What the claims speak of: the invariant of the machine, the operand codes as the spec's tables give them, what each
instruction may write, and the shapes of a result. Nothing here is used by the machine. -/

namespace Sys2Proof.Machine

/-! ## The invariant -/

/-- The legal states: memory in its canonical form, and ROM_END <= RAM_END <= 65536 (00_scope.md R6). -/
def State.Inv (s : State) : Prop := s.mem.wf = true ∧ s.map.Valid

/-- The RAM zone (20_memory.md R39). -/
abbrev InRam (m : MemoryMap) (addr : Word) : Prop := m.romEnd ≤ addr.toNat ∧ addr.toNat < m.ramEnd

/-! ## Operand codes, as 10_state.md R16 and R18 and 30_encoding.md R69 and R70 list them -/

/-- 10_state.md R16. -/
def regCode : Reg → Nat
  | .b => 0
  | .c => 1
  | .d => 2
  | .e => 3
  | .h => 4
  | .l => 5
  | .a => 7

/-- 10_state.md R18. -/
def rpCode : Rp → Nat
  | .bc => 0
  | .de => 1
  | .hl => 2
  | .sp => 3

/-- 10_state.md R18. -/
def pairCode : Pair → Nat
  | .bc => 0
  | .de => 1
  | .hl => 2

/-- 10_state.md R18. -/
def indirCode : IndirPair → Nat
  | .bc => 0
  | .de => 1

/-- 30_encoding.md R70. -/
def aluCode : AluOp → Nat
  | .add => 0
  | .adc => 1
  | .sub => 2
  | .sbb => 3
  | .ana => 4
  | .xra => 5
  | .ora => 6
  | .cmp => 7

/-- 30_encoding.md R69. -/
def condCode : Cond → Nat
  | .nz => 0
  | .z => 1
  | .nc => 2
  | .c => 3
  | .po => 4
  | .pe => 5
  | .p => 6
  | .m => 7

/-- A number below 256 as a byte. -/
abbrev byteOf (n : Nat) : Byte := BitVec.ofNat 8 n

/-! ## What an instruction may write -/

/-- The names of the five flags (10_state.md R23). -/
inductive FlagName where
  | cy | ac | p | z | s
  deriving DecidableEq, Repr

/-- The flag of a name. -/
def flagOf (f : Flags) : FlagName → Bool
  | .cy => f.cy
  | .ac => f.ac
  | .p => f.p
  | .z => f.z
  | .s => f.s

/-- The registers that an instruction may write, column "written by" of 10_state.md R19 (a pair is its two registers, R17). -/
def regsWritten : Instr → List Reg
  | .unrecognised _ => []
  | .nop | .staxB | .staxD | .shld _ | .lxiSp _ | .sta _ | .inxSp | .inrM | .dcrM | .mviM _ | .stc | .dcxSp
  | .cmc | .movMB | .movMC | .movMD | .movME | .movMH | .movML | .hlt | .movMA | .cmpB | .cmpC | .cmpD | .cmpE
  | .cmpH | .cmpL | .cmpM | .cmpA | .rnz | .jnz _ | .jmp _ | .cnz _ | .pushB | .rst0 | .rz | .ret | .jz _
  | .cz _ | .call _ | .rst1 | .rnc | .jnc _ | .outPort _ | .cnc _ | .pushD | .rst2 | .rc | .jc _ | .inPort _
  | .cc _ | .rst3 | .rpo | .jpo _ | .cpo _ | .pushH | .rst4 | .rpe | .pchl | .jpe _ | .cpe _ | .rst5 | .rp
  | .jp _ | .di | .cp _ | .pushPsw | .rst6 | .rm | .sphl | .jm _ | .ei | .cm _ | .cpi _ | .rst7 => []
  | .lxiB _ | .inxB | .dcxB | .popB => [.b, .c]
  | .inrB | .dcrB | .mviB _ | .movBB | .movBC | .movBD | .movBE | .movBH | .movBL | .movBM | .movBA => [.b]
  | .rlc | .ldaxB | .rrc | .ral | .ldaxD | .rar | .daa | .cma | .lda _ | .inrA | .dcrA | .mviA _ | .movAB
  | .movAC | .movAD | .movAE | .movAH | .movAL | .movAM | .movAA | .addB | .addC | .addD | .addE | .addH
  | .addL | .addM | .addA | .adcB | .adcC | .adcD | .adcE | .adcH | .adcL | .adcM | .adcA | .subB | .subC
  | .subD | .subE | .subH | .subL | .subM | .subA | .sbbB | .sbbC | .sbbD | .sbbE | .sbbH | .sbbL | .sbbM
  | .sbbA | .anaB | .anaC | .anaD | .anaE | .anaH | .anaL | .anaM | .anaA | .xraB | .xraC | .xraD | .xraE
  | .xraH | .xraL | .xraM | .xraA | .oraB | .oraC | .oraD | .oraE | .oraH | .oraL | .oraM | .oraA | .adi _
  | .aci _ | .sui _ | .sbi _ | .ani _ | .xri _ | .popPsw | .ori _ => [.a]
  | .dadB | .dadD | .lxiH _ | .inxH | .dadH | .lhld _ | .dcxH | .dadSp | .popH | .xthl => [.h, .l]
  | .inrC | .dcrC | .mviC _ | .movCB | .movCC | .movCD | .movCE | .movCH | .movCL | .movCM | .movCA => [.c]
  | .lxiD _ | .inxD | .dcxD | .popD => [.d, .e]
  | .inrD | .dcrD | .mviD _ | .movDB | .movDC | .movDD | .movDE | .movDH | .movDL | .movDM | .movDA => [.d]
  | .inrE | .dcrE | .mviE _ | .movEB | .movEC | .movED | .movEE | .movEH | .movEL | .movEM | .movEA => [.e]
  | .inrH | .dcrH | .mviH _ | .movHB | .movHC | .movHD | .movHE | .movHH | .movHL | .movHM | .movHA => [.h]
  | .inrL | .dcrL | .mviL _ | .movLB | .movLC | .movLD | .movLE | .movLH | .movLL | .movLM | .movLA => [.l]
  | .xchg => [.d, .e, .h, .l]

/-- The flags that an instruction may write: the columns of 10_state.md R26. -/
def flagsWritten : Instr → List FlagName
  | .unrecognised _ => []
  | .nop | .lxiB _ | .staxB | .inxB | .mviB _ | .ldaxB | .dcxB | .mviC _ | .lxiD _ | .staxD | .inxD | .mviD _
  | .ldaxD | .dcxD | .mviE _ | .lxiH _ | .shld _ | .inxH | .mviH _ | .lhld _ | .dcxH | .mviL _ | .cma
  | .lxiSp _ | .sta _ | .inxSp | .mviM _ | .lda _ | .dcxSp | .mviA _ | .movBB | .movBC | .movBD | .movBE
  | .movBH | .movBL | .movBM | .movBA | .movCB | .movCC | .movCD | .movCE | .movCH | .movCL | .movCM | .movCA
  | .movDB | .movDC | .movDD | .movDE | .movDH | .movDL | .movDM | .movDA | .movEB | .movEC | .movED | .movEE
  | .movEH | .movEL | .movEM | .movEA | .movHB | .movHC | .movHD | .movHE | .movHH | .movHL | .movHM | .movHA
  | .movLB | .movLC | .movLD | .movLE | .movLH | .movLL | .movLM | .movLA | .movMB | .movMC | .movMD | .movME
  | .movMH | .movML | .hlt | .movMA | .movAB | .movAC | .movAD | .movAE | .movAH | .movAL | .movAM | .movAA
  | .rnz | .popB | .jnz _ | .jmp _ | .cnz _ | .pushB | .rst0 | .rz | .ret | .jz _ | .cz _ | .call _ | .rst1
  | .rnc | .popD | .jnc _ | .outPort _ | .cnc _ | .pushD | .rst2 | .rc | .jc _ | .inPort _ | .cc _ | .rst3
  | .rpo | .popH | .jpo _ | .xthl | .cpo _ | .pushH | .rst4 | .rpe | .pchl | .jpe _ | .xchg | .cpe _ | .rst5
  | .rp | .jp _ | .di | .cp _ | .pushPsw | .rst6 | .rm | .sphl | .jm _ | .ei | .cm _ | .rst7 => []
  | .inrB | .dcrB | .inrC | .dcrC | .inrD | .dcrD | .inrE | .dcrE | .inrH | .dcrH | .inrL | .dcrL | .inrM
  | .dcrM | .inrA | .dcrA => [.ac, .p, .z, .s]
  | .rlc | .dadB | .rrc | .ral | .dadD | .rar | .dadH | .stc | .dadSp | .cmc => [.cy]
  | .daa | .addB | .addC | .addD | .addE | .addH | .addL | .addM | .addA | .adcB | .adcC | .adcD | .adcE
  | .adcH | .adcL | .adcM | .adcA | .subB | .subC | .subD | .subE | .subH | .subL | .subM | .subA | .sbbB
  | .sbbC | .sbbD | .sbbE | .sbbH | .sbbL | .sbbM | .sbbA | .anaB | .anaC | .anaD | .anaE | .anaH | .anaL
  | .anaM | .anaA | .xraB | .xraC | .xraD | .xraE | .xraH | .xraL | .xraM | .xraA | .oraB | .oraC | .oraD
  | .oraE | .oraH | .oraL | .oraM | .oraA | .cmpB | .cmpC | .cmpD | .cmpE | .cmpH | .cmpL | .cmpM | .cmpA
  | .adi _ | .aci _ | .sui _ | .sbi _ | .ani _ | .xri _ | .popPsw | .ori _ | .cpi _ => [.cy, .ac, .p, .z, .s]

/-- The instructions that may write sp (10_state.md R28). -/
def writesSp : Instr → Bool
  | .unrecognised _ => false
  | .nop | .lxiB _ | .staxB | .inxB | .inrB | .dcrB | .mviB _ | .rlc | .dadB | .ldaxB | .dcxB | .inrC | .dcrC
  | .mviC _ | .rrc | .lxiD _ | .staxD | .inxD | .inrD | .dcrD | .mviD _ | .ral | .dadD | .ldaxD | .dcxD | .inrE
  | .dcrE | .mviE _ | .rar | .lxiH _ | .shld _ | .inxH | .inrH | .dcrH | .mviH _ | .daa | .dadH | .lhld _
  | .dcxH | .inrL | .dcrL | .mviL _ | .cma | .sta _ | .inrM | .dcrM | .mviM _ | .stc | .dadSp | .lda _ | .inrA
  | .dcrA | .mviA _ | .cmc | .movBB | .movBC | .movBD | .movBE | .movBH | .movBL | .movBM | .movBA | .movCB
  | .movCC | .movCD | .movCE | .movCH | .movCL | .movCM | .movCA | .movDB | .movDC | .movDD | .movDE | .movDH
  | .movDL | .movDM | .movDA | .movEB | .movEC | .movED | .movEE | .movEH | .movEL | .movEM | .movEA | .movHB
  | .movHC | .movHD | .movHE | .movHH | .movHL | .movHM | .movHA | .movLB | .movLC | .movLD | .movLE | .movLH
  | .movLL | .movLM | .movLA | .movMB | .movMC | .movMD | .movME | .movMH | .movML | .hlt | .movMA | .movAB
  | .movAC | .movAD | .movAE | .movAH | .movAL | .movAM | .movAA | .addB | .addC | .addD | .addE | .addH
  | .addL | .addM | .addA | .adcB | .adcC | .adcD | .adcE | .adcH | .adcL | .adcM | .adcA | .subB | .subC
  | .subD | .subE | .subH | .subL | .subM | .subA | .sbbB | .sbbC | .sbbD | .sbbE | .sbbH | .sbbL | .sbbM
  | .sbbA | .anaB | .anaC | .anaD | .anaE | .anaH | .anaL | .anaM | .anaA | .xraB | .xraC | .xraD | .xraE
  | .xraH | .xraL | .xraM | .xraA | .oraB | .oraC | .oraD | .oraE | .oraH | .oraL | .oraM | .oraA | .cmpB
  | .cmpC | .cmpD | .cmpE | .cmpH | .cmpL | .cmpM | .cmpA | .jnz _ | .jmp _ | .adi _ | .jz _ | .aci _ | .jnc _
  | .outPort _ | .sui _ | .jc _ | .inPort _ | .sbi _ | .jpo _ | .xthl | .ani _ | .pchl | .jpe _ | .xchg
  | .xri _ | .jp _ | .di | .ori _ | .jm _ | .ei | .cpi _ => false
  | .lxiSp _ | .inxSp | .dcxSp | .rnz | .popB | .cnz _ | .pushB | .rst0 | .rz | .ret | .cz _ | .call _ | .rst1
  | .rnc | .popD | .cnc _ | .pushD | .rst2 | .rc | .cc _ | .rst3 | .rpo | .popH | .cpo _ | .pushH | .rst4
  | .rpe | .cpe _ | .rst5 | .rp | .popPsw | .cp _ | .pushPsw | .rst6 | .rm | .sphl | .cm _ | .rst7 => true

/-- The instructions that write the interrupt-enable latch (10_state.md R29). -/
def writesIe : Instr → Bool
  | .unrecognised _ => false
  | .nop | .lxiB _ | .staxB | .inxB | .inrB | .dcrB | .mviB _ | .rlc | .dadB | .ldaxB | .dcxB | .inrC | .dcrC
  | .mviC _ | .rrc | .lxiD _ | .staxD | .inxD | .inrD | .dcrD | .mviD _ | .ral | .dadD | .ldaxD | .dcxD | .inrE
  | .dcrE | .mviE _ | .rar | .lxiH _ | .shld _ | .inxH | .inrH | .dcrH | .mviH _ | .daa | .dadH | .lhld _
  | .dcxH | .inrL | .dcrL | .mviL _ | .cma | .lxiSp _ | .sta _ | .inxSp | .inrM | .dcrM | .mviM _ | .stc
  | .dadSp | .lda _ | .dcxSp | .inrA | .dcrA | .mviA _ | .cmc | .movBB | .movBC | .movBD | .movBE | .movBH
  | .movBL | .movBM | .movBA | .movCB | .movCC | .movCD | .movCE | .movCH | .movCL | .movCM | .movCA | .movDB
  | .movDC | .movDD | .movDE | .movDH | .movDL | .movDM | .movDA | .movEB | .movEC | .movED | .movEE | .movEH
  | .movEL | .movEM | .movEA | .movHB | .movHC | .movHD | .movHE | .movHH | .movHL | .movHM | .movHA | .movLB
  | .movLC | .movLD | .movLE | .movLH | .movLL | .movLM | .movLA | .movMB | .movMC | .movMD | .movME | .movMH
  | .movML | .hlt | .movMA | .movAB | .movAC | .movAD | .movAE | .movAH | .movAL | .movAM | .movAA | .addB
  | .addC | .addD | .addE | .addH | .addL | .addM | .addA | .adcB | .adcC | .adcD | .adcE | .adcH | .adcL
  | .adcM | .adcA | .subB | .subC | .subD | .subE | .subH | .subL | .subM | .subA | .sbbB | .sbbC | .sbbD
  | .sbbE | .sbbH | .sbbL | .sbbM | .sbbA | .anaB | .anaC | .anaD | .anaE | .anaH | .anaL | .anaM | .anaA
  | .xraB | .xraC | .xraD | .xraE | .xraH | .xraL | .xraM | .xraA | .oraB | .oraC | .oraD | .oraE | .oraH
  | .oraL | .oraM | .oraA | .cmpB | .cmpC | .cmpD | .cmpE | .cmpH | .cmpL | .cmpM | .cmpA | .rnz | .popB
  | .jnz _ | .jmp _ | .cnz _ | .pushB | .adi _ | .rst0 | .rz | .ret | .jz _ | .cz _ | .call _ | .aci _ | .rst1
  | .rnc | .popD | .jnc _ | .outPort _ | .cnc _ | .pushD | .sui _ | .rst2 | .rc | .jc _ | .inPort _ | .cc _
  | .sbi _ | .rst3 | .rpo | .popH | .jpo _ | .xthl | .cpo _ | .pushH | .ani _ | .rst4 | .rpe | .pchl | .jpe _
  | .xchg | .cpe _ | .xri _ | .rst5 | .rp | .popPsw | .jp _ | .cp _ | .pushPsw | .ori _ | .rst6 | .rm | .sphl
  | .jm _ | .cm _ | .cpi _ | .rst7 => false
  | .di | .ei => true

/-- The instructions that may write a target to pc: jumps, calls, returns, restarts and PCHL (10_state.md R22). -/
def transfersControl : Instr → Bool
  | .unrecognised _ => false
  | .nop | .lxiB _ | .staxB | .inxB | .inrB | .dcrB | .mviB _ | .rlc | .dadB | .ldaxB | .dcxB | .inrC | .dcrC
  | .mviC _ | .rrc | .lxiD _ | .staxD | .inxD | .inrD | .dcrD | .mviD _ | .ral | .dadD | .ldaxD | .dcxD | .inrE
  | .dcrE | .mviE _ | .rar | .lxiH _ | .shld _ | .inxH | .inrH | .dcrH | .mviH _ | .daa | .dadH | .lhld _
  | .dcxH | .inrL | .dcrL | .mviL _ | .cma | .lxiSp _ | .sta _ | .inxSp | .inrM | .dcrM | .mviM _ | .stc
  | .dadSp | .lda _ | .dcxSp | .inrA | .dcrA | .mviA _ | .cmc | .movBB | .movBC | .movBD | .movBE | .movBH
  | .movBL | .movBM | .movBA | .movCB | .movCC | .movCD | .movCE | .movCH | .movCL | .movCM | .movCA | .movDB
  | .movDC | .movDD | .movDE | .movDH | .movDL | .movDM | .movDA | .movEB | .movEC | .movED | .movEE | .movEH
  | .movEL | .movEM | .movEA | .movHB | .movHC | .movHD | .movHE | .movHH | .movHL | .movHM | .movHA | .movLB
  | .movLC | .movLD | .movLE | .movLH | .movLL | .movLM | .movLA | .movMB | .movMC | .movMD | .movME | .movMH
  | .movML | .hlt | .movMA | .movAB | .movAC | .movAD | .movAE | .movAH | .movAL | .movAM | .movAA | .addB
  | .addC | .addD | .addE | .addH | .addL | .addM | .addA | .adcB | .adcC | .adcD | .adcE | .adcH | .adcL
  | .adcM | .adcA | .subB | .subC | .subD | .subE | .subH | .subL | .subM | .subA | .sbbB | .sbbC | .sbbD
  | .sbbE | .sbbH | .sbbL | .sbbM | .sbbA | .anaB | .anaC | .anaD | .anaE | .anaH | .anaL | .anaM | .anaA
  | .xraB | .xraC | .xraD | .xraE | .xraH | .xraL | .xraM | .xraA | .oraB | .oraC | .oraD | .oraE | .oraH
  | .oraL | .oraM | .oraA | .cmpB | .cmpC | .cmpD | .cmpE | .cmpH | .cmpL | .cmpM | .cmpA | .popB | .pushB
  | .adi _ | .aci _ | .popD | .outPort _ | .pushD | .sui _ | .inPort _ | .sbi _ | .popH | .xthl | .pushH
  | .ani _ | .xchg | .xri _ | .popPsw | .di | .pushPsw | .ori _ | .sphl | .ei | .cpi _ => false
  | .rnz | .jnz _ | .jmp _ | .cnz _ | .rst0 | .rz | .ret | .jz _ | .cz _ | .call _ | .rst1 | .rnc | .jnc _
  | .cnc _ | .rst2 | .rc | .jc _ | .cc _ | .rst3 | .rpo | .jpo _ | .cpo _ | .rst4 | .rpe | .pchl | .jpe _
  | .cpe _ | .rst5 | .rp | .jp _ | .cp _ | .rst6 | .rm | .jm _ | .cm _ | .rst7 => true

/-- The two bytes of `Push(v)`: low byte at sp - 2 first, then the high byte at sp - 1 (44_stack_control.md R144). -/
def pushedBytes (s : State) (v : Word) : List (Word × Byte) := [(s.sp - 2, lo8 v), (s.sp - 1, hi8 v)]

/-- The bytes that an instruction stores, in the order of its pseudocode (20_memory.md R50, R56): the address and the value of each
guarded byte write, when it executes in the state `s` (pc past the instruction). -/
def storesOf (s : State) : Instr → List (Word × Byte)
  | .unrecognised _ => []
  | .movMB => [(s.pair .hl, s.b)]
  | .movMC => [(s.pair .hl, s.c)]
  | .movMD => [(s.pair .hl, s.d)]
  | .movME => [(s.pair .hl, s.e)]
  | .movMH => [(s.pair .hl, s.h)]
  | .movML => [(s.pair .hl, s.l)]
  | .movMA => [(s.pair .hl, s.a)]
  | .mviM v => [(s.pair .hl, v)]
  | .inrM => [(s.pair .hl, (incOp s.readM s.f).value)]
  | .dcrM => [(s.pair .hl, (decOp s.readM s.f).value)]
  | .sta addr => [(addr, s.a)]
  | .staxB => [(s.pair .bc, s.a)]
  | .staxD => [(s.pair .de, s.a)]
  | .shld addr => [(addr, s.l), (addr + 1, s.h)]
  | .xthl => [(s.sp, s.l), (s.sp + 1, s.h)]
  | .pushB => pushedBytes s (s.pair .bc)
  | .pushD => pushedBytes s (s.pair .de)
  | .pushH => pushedBytes s (s.pair .hl)
  | .pushPsw => pushedBytes s (joinBytes s.a (packPsw s.f))
  | .call _ => pushedBytes s s.pc
  | .cnz _ => if condHolds s.f .nz then pushedBytes s s.pc else []
  | .cz _ => if condHolds s.f .z then pushedBytes s s.pc else []
  | .cnc _ => if condHolds s.f .nc then pushedBytes s s.pc else []
  | .cc _ => if condHolds s.f .c then pushedBytes s s.pc else []
  | .cpo _ => if condHolds s.f .po then pushedBytes s s.pc else []
  | .cpe _ => if condHolds s.f .pe then pushedBytes s s.pc else []
  | .cp _ => if condHolds s.f .p then pushedBytes s s.pc else []
  | .cm _ => if condHolds s.f .m then pushedBytes s s.pc else []
  | .rst0 | .rst1 | .rst2 | .rst3 | .rst4 | .rst5 | .rst6 | .rst7 => pushedBytes s s.pc
  | .nop | .lxiB _ | .inxB | .inrB | .dcrB | .mviB _ | .rlc | .dadB | .ldaxB | .dcxB | .inrC | .dcrC | .mviC _
  | .rrc | .lxiD _ | .inxD | .inrD | .dcrD | .mviD _ | .ral | .dadD | .ldaxD | .dcxD | .inrE | .dcrE | .mviE _
  | .rar | .lxiH _ | .inxH | .inrH | .dcrH | .mviH _ | .daa | .dadH | .lhld _ | .dcxH | .inrL | .dcrL | .mviL _
  | .cma | .lxiSp _ | .inxSp | .stc | .dadSp | .lda _ | .dcxSp | .inrA | .dcrA | .mviA _ | .cmc | .movBB
  | .movBC | .movBD | .movBE | .movBH | .movBL | .movBM | .movBA | .movCB | .movCC | .movCD | .movCE | .movCH
  | .movCL | .movCM | .movCA | .movDB | .movDC | .movDD | .movDE | .movDH | .movDL | .movDM | .movDA | .movEB
  | .movEC | .movED | .movEE | .movEH | .movEL | .movEM | .movEA | .movHB | .movHC | .movHD | .movHE | .movHH
  | .movHL | .movHM | .movHA | .movLB | .movLC | .movLD | .movLE | .movLH | .movLL | .movLM | .movLA | .hlt
  | .movAB | .movAC | .movAD | .movAE | .movAH | .movAL | .movAM | .movAA | .addB | .addC | .addD | .addE
  | .addH | .addL | .addM | .addA | .adcB | .adcC | .adcD | .adcE | .adcH | .adcL | .adcM | .adcA | .subB
  | .subC | .subD | .subE | .subH | .subL | .subM | .subA | .sbbB | .sbbC | .sbbD | .sbbE | .sbbH | .sbbL
  | .sbbM | .sbbA | .anaB | .anaC | .anaD | .anaE | .anaH | .anaL | .anaM | .anaA | .xraB | .xraC | .xraD
  | .xraE | .xraH | .xraL | .xraM | .xraA | .oraB | .oraC | .oraD | .oraE | .oraH | .oraL | .oraM | .oraA
  | .cmpB | .cmpC | .cmpD | .cmpE | .cmpH | .cmpL | .cmpM | .cmpA | .rnz | .popB | .jnz _ | .jmp _ | .adi _
  | .rz | .ret | .jz _ | .aci _ | .rnc | .popD | .jnc _ | .outPort _ | .sui _ | .rc | .jc _ | .inPort _
  | .sbi _ | .rpo | .popH | .jpo _ | .ani _ | .rpe | .pchl | .jpe _ | .xchg | .xri _ | .rp | .popPsw | .jp _
  | .di | .ori _ | .rm | .sphl | .jm _ | .ei | .cpi _ => []

/-- The diagnostic of a guarded byte write: none in RAM, `ReadOnly` below ROM_END, `OutsideRAM` otherwise (20_memory.md R42). -/
def rejectionOf (m : MemoryMap) (w : Word × Byte) : Option WriteRejected :=
  if m.romEnd ≤ w.1.toNat ∧ w.1.toNat < m.ramEnd then none
  else if w.1.toNat < m.romEnd then some { addr := w.1, value := w.2, kind := .readOnly }
  else some { addr := w.1, value := w.2, kind := .outsideRam }

/-! ## Conditions, as 30_encoding.md R69 tables them -/

/-- The flag that a condition tests (30_encoding.md R69). -/
def condFlag : Cond → FlagName
  | .nz => .z
  | .z => .z
  | .nc => .cy
  | .c => .cy
  | .po => .p
  | .pe => .p
  | .p => .s
  | .m => .s

/-- The condition holds: its flag is 1 for an odd code and 0 for an even one (30_encoding.md R69). -/
abbrev Taken (s : State) (cond : Cond) : Prop := flagOf s.f (condFlag cond) = decide (condCode cond % 2 = 1)

/-! ## The shapes of a result -/

/-- Nothing changes but the listed registers and flags: a form that stores nothing and transfers no control. -/
def KeepsAllBut (s t : State) (regs : List Reg) (flags : List FlagName) : Prop :=
  (∀ r, r ∉ regs → t.reg r = s.reg r) ∧ (∀ n, n ∉ flags → flagOf t.f n = flagOf s.f n) ∧
    t.pc = s.pc ∧ t.sp = s.sp ∧ t.ie = s.ie ∧ t.mem = s.mem ∧ t.map = s.map ∧ t.events = s.events ∧ t.cost = s.cost

/-- The two registers of a pair (10_state.md R17). -/
def pairRegs : Pair → List Reg
  | .bc => [.b, .c]
  | .de => [.d, .e]
  | .hl => [.h, .l]

/-- The registers of a 16-bit operand (10_state.md R17, R18). -/
def rpRegs : Rp → List Reg
  | .bc => [.b, .c]
  | .de => [.d, .e]
  | .hl => [.h, .l]
  | .sp => []

/-- The guarded byte writes `ws`, at addresses that differ, take `s` to `t` (20_memory.md R42, R43): each byte in RAM is read back,
every address that is not written or is outside RAM reads as before, and the rejected writes are reported in order. -/
def StoresBytes (s t : State) (ws : List (Word × Byte)) : Prop :=
  (s.mem.wf = true → ∀ w ∈ ws, InRam s.map w.1 → t.read w.1 = w.2) ∧
    (∀ addr, (∀ w ∈ ws, w.1 ≠ addr) ∨ ¬ InRam s.map addr → t.read addr = s.read addr) ∧
    t.events = s.events ++ ws.filterMap (rejectionOf s.map)

/-- z, s and p are those of the byte `v` (30_encoding.md R87). -/
def ZspOf (v : Byte) (f : Flags) : Prop :=
  (f.z = true ↔ v = 0) ∧ (f.s = true ↔ 128 ≤ v.toNat) ∧ (f.p = true ↔ popcount v % 2 = 0)

/-- `i` adds `v` and the carry-in to A (30_encoding.md R88, R89): the sum modulo 256 goes to A, cy is the carry out of bit 7, ac the
carry out of bit 3, and nothing but A and the flags changes. -/
def AddsToA (i : Instr) (s : State) (v : Byte) (cin : Bool) : Prop :=
  ∃ t, exec i s = .next t ∧ t = { s with a := t.a, f := t.f } ∧
    t.a.toNat = (s.a.toNat + v.toNat + cin.toNat) % 256 ∧
    (t.f.cy = true ↔ 256 ≤ s.a.toNat + v.toNat + cin.toNat) ∧
    (t.f.ac = true ↔ 16 ≤ s.a.toNat % 16 + v.toNat % 16 + cin.toNat) ∧
    ZspOf t.a t.f

/-- The flags of A - v - bin (30_encoding.md R90), `d` being the 8-bit difference: cy is the borrow, ac is set when the low nibble
does not borrow. -/
def BorrowFlags (s : State) (v : Byte) (bin : Bool) (d : Byte) (f : Flags) : Prop :=
  (d.toNat : Int) = ((s.a.toNat : Int) - v.toNat - bin.toNat) % 256 ∧
    (f.cy = true ↔ s.a.toNat < v.toNat + bin.toNat) ∧
    (f.ac = true ↔ v.toNat % 16 + bin.toNat ≤ s.a.toNat % 16) ∧
    ZspOf d f

/-- `i` subtracts `v` and the borrow-in from A (30_encoding.md R90), and nothing but A and the flags changes. -/
def SubtractsFromA (i : Instr) (s : State) (v : Byte) (bin : Bool) : Prop :=
  ∃ t, exec i s = .next t ∧ t = { s with a := t.a, f := t.f } ∧ BorrowFlags s v bin t.a t.f

/-- `i` compares A with `v`: the flags of the difference, and nothing but the flags changes (42_logical.md R134). -/
def ComparesWithA (i : Instr) (s : State) (v : Byte) : Prop :=
  ∃ t d, exec i s = .next t ∧ t = { s with f := t.f } ∧ BorrowFlags s v false d t.f

/-- `i` puts the byte `v` into A with the flags of a logic operation (30_encoding.md R91), and changes nothing else. -/
def LogicResultInA (i : Instr) (s : State) (v : Byte) : Prop :=
  ∃ t, exec i s = .next t ∧ t = { s with a := v, f := t.f } ∧ t.f.cy = false ∧ t.f.ac = false ∧ ZspOf v t.f

/-- The flags of INR on the byte `v` with result `r` (41_arithmetic.md R117): cy is kept. -/
def IncFlags (s : State) (v r : Byte) (f : Flags) : Prop :=
  r.toNat = (v.toNat + 1) % 256 ∧ f.cy = s.f.cy ∧ (f.ac = true ↔ r.toNat % 16 = 0) ∧ ZspOf r f

/-- The flags of DCR on the byte `v` with result `r` (41_arithmetic.md R119): cy is kept. -/
def DecFlags (s : State) (v r : Byte) (f : Flags) : Prop :=
  r.toNat = (v.toNat + 255) % 256 ∧ f.cy = s.f.cy ∧ (f.ac = true ↔ v.toNat % 16 ≠ 0) ∧ ZspOf r f

/-- The meanings of a list of instructions, one after the other. -/
def execAll : List Instr → State → Result
  | [], s => .next s
  | i :: rest, s =>
    match exec i s with
    | .next t => execAll rest t
    | .fault r => .fault r
    | .refused r => .refused r

end Sys2Proof.Machine
end

