-- ==== Sys2Proof/Certificates/Slice0/Obligations.lean ====
section
/-! DEFINITION. The statements for the provers, from the numbered rules of spec/. Where a rule rests on a decision that the spec marks
as its own choice (92_eei_decisions.md), the docstring names it and the statement is listed as derived. Opcode bytes are the
spec's decision D2 throughout. -/

open Sys2Proof
open Sys2Proof.Machine

/-! ## Encoding -/

/-- Words written out from 30_encoding.md R64, R65 and R77 to R80 decode to the instructions they stand for; the first four are the
bytes that the document shows (30_encoding.md, opening). -/
def Obligations.DecodeReadsWordsOfTheSpec : Prop :=
  ∀ rest : List Byte,
    decode (0x00#8 :: rest) = .ok (.nop, rest) ∧
    decode (0x3E#8 :: 0x05#8 :: rest) = .ok (.mviA 0x05#8, rest) ∧
    decode (0x3C#8 :: rest) = .ok (.inrA, rest) ∧
    decode (0xCD#8 :: 0x10#8 :: 0x00#8 :: rest) = .ok (.call 0x0010#16, rest) ∧
    decode (0x21#8 :: 0x34#8 :: 0x12#8 :: rest) = .ok (.lxiH 0x1234#16, rest) ∧
    decode (0x48#8 :: rest) = .ok (.movCB, rest) ∧
    decode (0x76#8 :: rest) = .ok (.hlt, rest) ∧
    decode (0x9E#8 :: rest) = .ok (.sbbM, rest) ∧
    decode (0x1F#8 :: rest) = .ok (.rar, rest) ∧
    decode (0xFA#8 :: 0x34#8 :: 0x12#8 :: rest) = .ok (.jm 0x1234#16, rest) ∧
    decode (0xF5#8 :: rest) = .ok (.pushPsw, rest) ∧
    decode (0xD3#8 :: 0x02#8 :: rest) = .ok (.outPort 0x02#8, rest) ∧
    decode (0xED#8 :: rest) = .ok (.unrecognised 0xED#8, rest)

/-- Decoding the encoding of a well-formed instruction gives it back, with every operand, and leaves the bytes after it (30_encoding.md
R65 against the opcode table R77 to R80; the map is decision D2). -/
def Obligations.DecodeOfEncodeIsTheInstruction : Prop :=
  ∀ (i : Instr) (rest : List Byte), i.wellFormed = true → decode (encode i ++ rest) = .ok (i, rest)

/-- Whatever decodes is the encoding of a well-formed instruction: each word has one meaning, and no bit of it is dropped
(30_encoding.md R73, R82; the map is decision D2). -/
def Obligations.EncodeOfDecodeIsTheWord : Prop :=
  ∀ (bytes rest : List Byte) (i : Instr), decode bytes = .ok (i, rest) → i.wellFormed = true ∧ bytes = encode i ++ rest

/-- 30_encoding.md R82: the opcode byte alone tells the length, exactly that many bytes are taken, and the bytes after the opcode never
change which operation it is. -/
def Obligations.DecodeTakesTheLengthOfTheOpcode : Prop :=
  ∀ (op : Byte) (rest : List Byte),
    (opcodeLength op ≤ rest.length + 1 →
      ∃ i, decode (op :: rest) = .ok (i, rest.drop (opcodeLength op - 1)) ∧ i.opcode = op) ∧
    (rest.length + 1 < opcodeLength op → decode (op :: rest) = .error (.missingOperand op))

/-- 30_encoding.md R81 (the set is decision D1): exactly twelve opcode bytes are unrecognised, whatever the operand bytes. -/
def Obligations.UnrecognisedAreExactlyTwelveBytes : Prop :=
  ∀ op b1 b2 o : Byte, decodeOpcode op b1 b2 = .unrecognised o ↔
    o = op ∧ op ∈ [0x08#8, 0x10#8, 0x18#8, 0x20#8, 0x28#8, 0x30#8, 0x38#8, 0xCB#8, 0xD9#8, 0xDD#8, 0xED#8, 0xFD#8]

/-! ## The step -/

/-- The step fetches and decodes the instruction at pc (30_encoding.md R72, R74, R75), runs its meaning, and returns the cost of its
opcode byte; an unrecognised byte is a decode failure at its own address. That the meaning gets pc already past all the bytes, where the
spec's pseudocode advances it inside the meaning, is the model's inference (log 7, from 20_memory.md R52); that the outputs are fields of
State, cleared first, is the model's choice (log 6). -/
def Obligations.StepRunsTheDecodedInstruction : Prop :=
  ∀ (s : State) (i : Instr) (rest : List Byte),
    decode [s.read s.pc, s.read (s.pc + 1), s.read (s.pc + 2)] = .ok (i, rest) →
    i.wellFormed = true ∧
    (∀ op, i = .unrecognised op → step s = .fault (.decodeFailure s.pc (s.read s.pc))) ∧
    step s =
      match exec i { s with pc := s.pc + BitVec.ofNat 16 (encode i).length, events := [], cost := none } with
      | .next t => .next { t with cost := some (Config.cycles (s.read s.pc)) }
      | .fault r => .fault r
      | .refused r => .refused r

/-- A step faults exactly on an unrecognised byte (60_exceptions.md R188 with 30_encoding.md R81, whose set is decision D1, log 12), the
fault carries the byte's address (= pc) and the byte (R189), and the disassembler gives "unknown" with length 1 there (R85, R189). The
fault carries no state (log 11). -/
def Obligations.DecodeFailureCarriesAddressAndOpcode : Prop :=
  ∀ (s : State) (r : Fault),
    (step s = .fault r ↔ s.read s.pc ∈ unrecognisedOpcodes ∧ r = .decodeFailure s.pc (s.read s.pc)) ∧
    (step s = .fault r → disassemble s.mem s.pc = { mnemonic := "unknown", operands := [], length := 1 })

/-- An unrecognised byte (30_encoding.md R81, decision D1, log 12) stops the step with the decode failure at the opcode's own address, and
the driver finds the state as it was before the step (60_exceptions.md R188). Three parts are the model's: the meaning finds that address
as pc - 1 (log 7), the fault carries no state (log 11), and the run of the driver ends there, whatever actions follow (log 9; R190 and
R206, decisions D22, D23). -/
def Obligations.UnrecognisedStopsWithStateUnchanged : Prop :=
  (∀ (op : Byte) (s : State), exec (.unrecognised op) s = .fault (.decodeFailure (s.pc - 1) op)) ∧
  (∀ (s : State) (rest : List DriverAction), s.read s.pc ∈ unrecognisedOpcodes →
    drive (.step :: rest) s = (s, [.decodeFailure s.pc (s.read s.pc)]))

/-- No exception but the decode failure exists (60_exceptions.md R192): in every state the step answers a next state on a recognised byte, a
fault on an unrecognised one (R188), and never a refusal. Which bytes are unrecognised is 30_encoding.md R81, decision D1 (log 12). -/
def Obligations.RecognisedOpcodesAlwaysStep : Prop :=
  ∀ s : State, (s.read s.pc ∉ unrecognisedOpcodes → ∃ t, step s = .next t) ∧
    (s.read s.pc ∈ unrecognisedOpcodes → ∃ r, step s = .fault r) ∧ ∀ r, step s ≠ .refused r

/-- How pc moves in a step (10_state.md R22): the condition is that of 30_encoding.md R69 and the restart target 8 * n that of R71 (codes and
address are marked general knowledge there; decision D2, log 12), the popped target is the two bytes of 20_memory.md R48, and a decode
failure (60_exceptions.md R188) leaves pc at the opcode's own address, which the driver finds (log 9, log 11). -/
def Obligations.ProgramCounterAfterStep : Prop :=
  ∀ s : State,
    (∀ t, step s = .next t →
      (transfersControl s.fetchInstr = false → t.pc = s.pc + BitVec.ofNat 16 (opcodeLength (s.read s.pc))) ∧
      (∀ cond a16, s.fetchInstr = .ofJump cond a16 ∨ s.fetchInstr = .ofCall cond a16 →
        t.pc = if Taken s cond then a16 else s.pc + 3) ∧
      (∀ cond, s.fetchInstr = .ofRet cond →
        t.pc = if Taken s cond then joinBytes (s.read (s.sp + 1)) (s.read s.sp) else s.pc + 1) ∧
      (∀ a16, s.fetchInstr = .jmp a16 ∨ s.fetchInstr = .call a16 → t.pc = a16) ∧
      (s.fetchInstr = .ret → t.pc = joinBytes (s.read (s.sp + 1)) (s.read s.sp)) ∧
      (∀ n, s.fetchInstr = .ofRst n → t.pc.toNat = 8 * n.val) ∧
      (s.fetchInstr = .pchl → t.pc = joinBytes s.h s.l)) ∧
    (∀ r rest, step s = .fault r → (drive (.step :: rest) s).1.pc = s.pc)

/-! ## Reset and the invariant -/

/-- 10_state.md R35 and 70_reset_and_hazards.md R207, R209 for every value of the parameters: what creation leaves (the latch is decision
D11, the load past the guard decision D10). An image longer than the address space creates no state. -/
def Obligations.CreateLeavesTheResetValues : Prop :=
  ∀ (map : MemoryMap) (entryPc initSp : Word) (initMem : Memory) (image : List Byte),
    (image.length ≤ 65536 →
      ∃ t, State.create map entryPc initSp initMem image = some t ∧
        (∀ r, t.reg r = 0) ∧ (∀ n, flagOf t.f n = false) ∧ packPsw t.f = 0x02#8 ∧
        t.pc = entryPc ∧ t.sp = initSp ∧ t.ie = false ∧ t.map = map ∧
        (initMem.wf = true → ∀ (k : Nat) (hk : k < image.length), t.mem.read k = image[k]) ∧
        (∀ k, image.length ≤ k → t.mem.read k = initMem.read k)) ∧
    (65536 < image.length → State.create map entryPc initSp initMem image = none)

/-- The reset state meets the invariant. Its partition, pc, sp and empty memory are the model's choice (log 1 to 4). -/
def Obligations.ResetStateIsLegal : Prop := State.reset.Inv

/-- Every state that the driver creates from a legal partition and a canonical launch memory meets the invariant. -/
def Obligations.CreatedStateIsLegal : Prop :=
  ∀ (map : MemoryMap) (entryPc initSp : Word) (initMem : Memory) (image : List Byte) (t : State),
    map.Valid → initMem.wf = true → State.create map entryPc initSp initMem image = some t → t.Inv

/-- Every step from a legal state gives a legal state: memory keeps its canonical form inside the 65536 bytes (20_memory.md R38, R31) and
the partition stays ordered (00_scope.md R6, decision D18). -/
def Obligations.StepKeepsTheInvariant : Prop :=
  ∀ s t : State, s.Inv → step s = .next t → t.Inv

/-- Every run of the driver (60_exceptions.md R205, decision D24), interrupts included, from a legal state ends in a legal state. -/
def Obligations.DriverRunKeepsTheInvariant : Prop :=
  ∀ (actions : List DriverAction) (s : State), s.Inv → (drive actions s).1.Inv

/-! ## The Memory Guard -/

/-- 20_memory.md R42: the guarded byte write, zone by zone. -/
def Obligations.GuardedWriteFollowsTheZones : Prop :=
  ∀ (s : State) (addr : Word) (v : Byte),
    (s.map.romEnd ≤ addr.toNat ∧ addr.toNat < s.map.ramEnd →
      s.write addr v = { s with mem := (s.write addr v).mem } ∧
      (s.mem.wf = true → (s.write addr v).read addr = v) ∧
      ∀ n, n ≠ addr → (s.write addr v).read n = s.read n) ∧
    (¬ (s.map.romEnd ≤ addr.toNat ∧ addr.toNat < s.map.ramEnd) → addr.toNat < s.map.romEnd →
      s.write addr v = { s with events := s.events ++ [{ addr := addr, value := v, kind := .readOnly }] }) ∧
    (¬ (s.map.romEnd ≤ addr.toNat ∧ addr.toNat < s.map.ramEnd) → s.map.romEnd ≤ addr.toNat →
      s.write addr v = { s with events := s.events ++ [{ addr := addr, value := v, kind := .outsideRam }] })

/-- The memory-guard property of 20_memory.md R62 (the spec marks it derived), for every instruction: no step changes a byte that is not
in RAM. -/
def Obligations.StepNeverChangesBytesOutsideRam : Prop :=
  ∀ (s t : State) (addr : Word), step s = .next t → ¬ InRam s.map addr → t.read addr = s.read addr

/-- The same for every run of the driver: the program in ROM cannot be modified (20_memory.md R59, R62, both marked derived). The driver is
taken to do only the actions of 60_exceptions.md R205 between steps (decision D24, log 9), an injection being that of R195 (decision D13). -/
def Obligations.DriverRunNeverChangesBytesOutsideRam : Prop :=
  ∀ (actions : List DriverAction) (s : State) (addr : Word), ¬ InRam s.map addr → (drive actions s).1.read addr = s.read addr

/-- 20_memory.md R45 to R47: a two-byte read and write are little-endian, wrap at the top of the address space (decision D8), and are guarded
byte by byte (decision D9). The source shows the byte order for the stack and the CALL operand; elsewhere it is the spec's own choice
(R47, decision D2, log 12). -/
def Obligations.TwoByteAccessIsLittleEndian : Prop :=
  ∀ (s : State) (addr v : Word),
    (s.read16 addr).toNat = (s.read (addr + 1)).toNat * 256 + (s.read addr).toNat ∧
    s.write16 addr v = { s with mem := (s.write16 addr v).mem, events := (s.write16 addr v).events } ∧
    StoresBytes s (s.write16 addr v) [(addr, BitVec.ofNat 8 (v.toNat % 256)), (addr + 1, BitVec.ofNat 8 (v.toNat / 256))] ∧
    (s.mem.wf = true → InRam s.map addr → InRam s.map (addr + 1) → (s.write16 addr v).read16 addr = v)

/-- 20_memory.md R48 and 44_stack_control.md R144: where a push puts its bytes, where a pop takes them, and that both move sp by 2 whether
or not the guard takes the bytes; with both bytes in RAM a pop gives back what was pushed. -/
def Obligations.PushAndPopLayout : Prop :=
  ∀ (s : State) (v : Word),
    s.push v = { s with sp := s.sp - 2, mem := (s.push v).mem, events := (s.push v).events } ∧
    StoresBytes s (s.push v) [(s.sp - 2, lo8 v), (s.sp - 1, hi8 v)] ∧
    s.top = joinBytes (s.read (s.sp + 1)) (s.read s.sp) ∧
    s.dropTop = { s with sp := s.sp + 2 } ∧
    (s.push v).dropTop.sp = s.sp ∧
    (s.mem.wf = true → InRam s.map (s.sp - 2) → InRam s.map (s.sp - 1) → (s.push v).top = v)

/-! ## Flags and the status word -/

/-- 30_encoding.md R86: parity is true exactly when the number of 1 bits is even. -/
def Obligations.ParityIsEvenPopulationCount : Prop :=
  ∀ v : Byte, parity v = true ↔ Even ((List.range 8).filter fun k => v.getLsbD k).length

/-- 10_state.md R24, R25 (the values of bits 5, 3 and 1 are decision D6): the status word bit by bit, and the flag round trip. -/
def Obligations.StatusWordLayoutAndRoundTrip : Prop :=
  (∀ f : Flags, unpackPsw (packPsw f) = f ∧
    (packPsw f).getLsbD 7 = f.s ∧ (packPsw f).getLsbD 6 = f.z ∧ (packPsw f).getLsbD 5 = false ∧ (packPsw f).getLsbD 4 = f.ac ∧
    (packPsw f).getLsbD 3 = false ∧ (packPsw f).getLsbD 2 = f.p ∧ (packPsw f).getLsbD 1 = true ∧ (packPsw f).getLsbD 0 = f.cy) ∧
  (∀ b : Byte, (unpackPsw b).s = b.getLsbD 7 ∧ (unpackPsw b).z = b.getLsbD 6 ∧ (unpackPsw b).ac = b.getLsbD 4 ∧
    (unpackPsw b).p = b.getLsbD 2 ∧ (unpackPsw b).cy = b.getLsbD 0)

/-! ## Data transfer -/

/-- 40_data_transfer.md R93: MOV r1,r2. -/
def Obligations.MovBetweenRegisters : Prop :=
  ∀ (s : State) (dst src : Reg),
    encode (.ofMov dst src) = [byteOf (0x40 + 8 * regCode dst + regCode src)] ∧
    ∃ t, exec (.ofMov dst src) s = .next t ∧ t.reg dst = s.reg src ∧ KeepsAllBut s t [dst] []

/-- 40_data_transfer.md R94: MOV r,M reads the byte at the old HL, in any zone. -/
def Obligations.MovRegisterFromMemory : Prop :=
  ∀ (s : State) (dst : Reg),
    encode (.ofMovFromM dst) = [byteOf (0x46 + 8 * regCode dst)] ∧
    ∃ t, exec (.ofMovFromM dst) s = .next t ∧ t.reg dst = s.read (joinBytes s.h s.l) ∧ KeepsAllBut s t [dst] []

/-- 40_data_transfer.md R95, R97: MOV M,r and MVI M,d8 store at HL through the guard. -/
def Obligations.StoreAtHl : Prop :=
  ∀ (s : State) (src : Reg) (d8 : Byte),
    encode (.ofMovToM src) = [byteOf (0x70 + regCode src)] ∧ encode (.mviM d8) = [0x36#8, d8] ∧
    (∃ t, exec (.ofMovToM src) s = .next t ∧ t = { s with mem := t.mem, events := t.events } ∧
      StoresBytes s t [(joinBytes s.h s.l, s.reg src)]) ∧
    (∃ t, exec (.mviM d8) s = .next t ∧ t = { s with mem := t.mem, events := t.events } ∧
      StoresBytes s t [(joinBytes s.h s.l, d8)])

/-- 40_data_transfer.md R96, R98: MVI r,d8 and LXI rp,d16; the operand is byte 1, or bytes 1 and 2 low byte first (30_encoding.md R68). That
order for an LXI operand is the spec's own choice (20_memory.md R47, decision D2, log 12). -/
def Obligations.LoadImmediate : Prop :=
  ∀ (s : State) (dst : Reg) (rp : Rp) (lo hi : Byte),
    encode (.ofMvi dst lo) = [byteOf (0x06 + 8 * regCode dst), lo] ∧
    encode (.ofLxi rp (joinBytes hi lo)) = [byteOf (0x01 + 16 * rpCode rp), lo, hi] ∧
    (∃ t, exec (.ofMvi dst lo) s = .next t ∧ t.reg dst = lo ∧ KeepsAllBut s t [dst] []) ∧
    (∃ t, exec (.ofLxi rp (joinBytes hi lo)) s = .next t ∧ t.rp rp = joinBytes hi lo ∧
      KeepsAllBut s { t with sp := s.sp } (rpRegs rp) [] ∧ (rp ≠ .sp → t.sp = s.sp))

/-- 40_data_transfer.md R99, R103: LDA and LDAX load A from any zone. -/
def Obligations.LoadAccumulator : Prop :=
  ∀ (s : State) (lo hi : Byte) (q : IndirPair),
    encode (.lda (joinBytes hi lo)) = [0x3A#8, lo, hi] ∧ encode (.ofLdax q) = [byteOf (0x0A + 16 * indirCode q)] ∧
    (∃ t, exec (.lda (joinBytes hi lo)) s = .next t ∧ t.a = s.read (joinBytes hi lo) ∧ KeepsAllBut s t [.a] []) ∧
    (∃ t, exec (.ofLdax q) s = .next t ∧ KeepsAllBut s t [.a] [] ∧
      t.a = s.read (match q with | .bc => joinBytes s.b s.c | .de => joinBytes s.d s.e))

/-- 40_data_transfer.md R100, R104: STA and STAX store A through the guard. -/
def Obligations.StoreAccumulator : Prop :=
  ∀ (s : State) (lo hi : Byte) (q : IndirPair),
    encode (.sta (joinBytes hi lo)) = [0x32#8, lo, hi] ∧ encode (.ofStax q) = [byteOf (0x02 + 16 * indirCode q)] ∧
    (∃ t, exec (.sta (joinBytes hi lo)) s = .next t ∧ t = { s with mem := t.mem, events := t.events } ∧
      StoresBytes s t [(joinBytes hi lo, s.a)]) ∧
    (∃ t, exec (.ofStax q) s = .next t ∧ t = { s with mem := t.mem, events := t.events } ∧
      StoresBytes s t [(match q with | .bc => joinBytes s.b s.c | .de => joinBytes s.d s.e, s.a)])

/-- 40_data_transfer.md R101, R102: LHLD and SHLD, L at the address and H at the next one. That byte order is the spec's own choice
(20_memory.md R47, decision D2, log 12), as are the wrap of the next address (decision D8) and the guarding of each stored byte on its own
(R46, decision D9). -/
def Obligations.LoadAndStoreHlDirect : Prop :=
  ∀ (s : State) (lo hi : Byte),
    encode (.lhld (joinBytes hi lo)) = [0x2A#8, lo, hi] ∧ encode (.shld (joinBytes hi lo)) = [0x22#8, lo, hi] ∧
    (∃ t, exec (.lhld (joinBytes hi lo)) s = .next t ∧ t.l = s.read (joinBytes hi lo) ∧ t.h = s.read (joinBytes hi lo + 1) ∧
      KeepsAllBut s t [.h, .l] []) ∧
    (∃ t, exec (.shld (joinBytes hi lo)) s = .next t ∧ t = { s with mem := t.mem, events := t.events } ∧
      StoresBytes s t [(joinBytes hi lo, s.l), (joinBytes hi lo + 1, s.h)])

/-! ## Arithmetic -/

/-- 41_arithmetic.md R105 to R110: ADD and ADC with a register, M and an immediate. That additions compute ac, and how, is decision D3
(30_encoding.md R89). -/
def Obligations.AdditionFamily : Prop :=
  ∀ (s : State) (src : Reg) (d8 : Byte),
    encode (.ofAlu .add src) = [byteOf (0x80 + regCode src)] ∧ encode .addM = [0x86#8] ∧ encode (.adi d8) = [0xC6#8, d8] ∧
    encode (.ofAlu .adc src) = [byteOf (0x88 + regCode src)] ∧ encode .adcM = [0x8E#8] ∧ encode (.aci d8) = [0xCE#8, d8] ∧
    AddsToA (.ofAlu .add src) s (s.reg src) false ∧
    AddsToA .addM s (s.read (joinBytes s.h s.l)) false ∧
    AddsToA (.adi d8) s d8 false ∧
    AddsToA (.ofAlu .adc src) s (s.reg src) s.f.cy ∧
    AddsToA .adcM s (s.read (joinBytes s.h s.l)) s.f.cy ∧
    AddsToA (.aci d8) s d8 s.f.cy

/-- 41_arithmetic.md R111 to R116: SUB and SBB with a register, M and an immediate. The ac of a subtraction is decision D4
(30_encoding.md R90). -/
def Obligations.SubtractionFamily : Prop :=
  ∀ (s : State) (src : Reg) (d8 : Byte),
    encode (.ofAlu .sub src) = [byteOf (0x90 + regCode src)] ∧ encode .subM = [0x96#8] ∧ encode (.sui d8) = [0xD6#8, d8] ∧
    encode (.ofAlu .sbb src) = [byteOf (0x98 + regCode src)] ∧ encode .sbbM = [0x9E#8] ∧ encode (.sbi d8) = [0xDE#8, d8] ∧
    SubtractsFromA (.ofAlu .sub src) s (s.reg src) false ∧
    SubtractsFromA .subM s (s.read (joinBytes s.h s.l)) false ∧
    SubtractsFromA (.sui d8) s d8 false ∧
    SubtractsFromA (.ofAlu .sbb src) s (s.reg src) s.f.cy ∧
    SubtractsFromA .sbbM s (s.read (joinBytes s.h s.l)) s.f.cy ∧
    SubtractsFromA (.sbi d8) s d8 s.f.cy

/-- 41_arithmetic.md R117, R119 (CY unchanged is decision D16, the ac of INR decision D3, of DCR decision D4): INR r and DCR r. -/
def Obligations.IncrementDecrementRegister : Prop :=
  ∀ (s : State) (r : Reg),
    encode (.ofInr r) = [byteOf (0x04 + 8 * regCode r)] ∧ encode (.ofDcr r) = [byteOf (0x05 + 8 * regCode r)] ∧
    (∃ t, exec (.ofInr r) s = .next t ∧ IncFlags s (s.reg r) (t.reg r) t.f ∧ KeepsAllBut s t [r] [.ac, .p, .z, .s]) ∧
    (∃ t, exec (.ofDcr r) s = .next t ∧ DecFlags s (s.reg r) (t.reg r) t.f ∧ KeepsAllBut s t [r] [.ac, .p, .z, .s])

/-- 41_arithmetic.md R118, R120 (CY unchanged is decision D16, ac decisions D3 and D4): INR M and DCR M; the flags are those of the result even when the write is
rejected. -/
def Obligations.IncrementDecrementMemory : Prop :=
  ∀ s : State, encode .inrM = [0x34#8] ∧ encode .dcrM = [0x35#8] ∧
    (∃ t r, exec .inrM s = .next t ∧ t = { s with f := t.f, mem := t.mem, events := t.events } ∧
      IncFlags s (s.read (joinBytes s.h s.l)) r t.f ∧ StoresBytes s t [(joinBytes s.h s.l, r)]) ∧
    (∃ t r, exec .dcrM s = .next t ∧ t = { s with f := t.f, mem := t.mem, events := t.events } ∧
      DecFlags s (s.read (joinBytes s.h s.l)) r t.f ∧ StoresBytes s t [(joinBytes s.h s.l, r)])

/-- 41_arithmetic.md R121, R122: INX and DCX wrap modulo 65536 and write no flag. -/
def Obligations.IncrementDecrementPair : Prop :=
  ∀ (s : State) (rp : Rp),
    encode (.ofInx rp) = [byteOf (0x03 + 16 * rpCode rp)] ∧ encode (.ofDcx rp) = [byteOf (0x0B + 16 * rpCode rp)] ∧
    (∃ t, exec (.ofInx rp) s = .next t ∧ (t.rp rp).toNat = ((s.rp rp).toNat + 1) % 65536 ∧
      KeepsAllBut s { t with sp := s.sp } (rpRegs rp) [] ∧ (rp ≠ .sp → t.sp = s.sp)) ∧
    (∃ t, exec (.ofDcx rp) s = .next t ∧ (t.rp rp).toNat = ((s.rp rp).toNat + 65535) % 65536 ∧
      KeepsAllBut s { t with sp := s.sp } (rpRegs rp) [] ∧ (rp ≠ .sp → t.sp = s.sp))

/-- 41_arithmetic.md R123 (the flags other than CY are decision D16): DAD adds the full 16 bits, and only CY changes. -/
def Obligations.PairAddition : Prop :=
  ∀ (s : State) (rp : Rp),
    encode (.ofDad rp) = [byteOf (0x09 + 16 * rpCode rp)] ∧
    ∃ t, exec (.ofDad rp) s = .next t ∧ KeepsAllBut s t [.h, .l] [.cy] ∧
      (joinBytes t.h t.l).toNat = ((joinBytes s.h s.l).toNat + (s.rp rp).toNat) % 65536 ∧
      (t.f.cy = true ↔ 65536 ≤ (joinBytes s.h s.l).toNat + (s.rp rp).toNat)

/-- 41_arithmetic.md R124 (its details are decision D5): DAA as numbers. -/
def Obligations.DecimalAdjust : Prop :=
  ∀ s : State, encode .daa = [0x27#8] ∧
    ∃ (t : State) (fixLow fixHigh : Bool) (a1 : Nat), exec .daa s = .next t ∧ t = { s with a := t.a, f := t.f } ∧
      (fixLow = true ↔ 9 < s.a.toNat % 16 ∨ s.f.ac = true) ∧
      a1 = (if fixLow then (s.a.toNat + 6) % 256 else s.a.toNat) ∧
      (t.f.ac = true ↔ fixLow = true ∧ 16 ≤ s.a.toNat % 16 + 6) ∧
      (fixHigh = true ↔ 9 < a1 / 16 ∨ s.f.cy = true) ∧
      t.a.toNat = (if fixHigh then (a1 + 96) % 256 else a1) ∧
      (t.f.cy = true ↔ if fixHigh then 256 ≤ a1 + 96 else s.f.cy = true) ∧
      ZspOf t.a t.f

/-- What DAA is for (41_arithmetic.md R105, R124, decision D5): after the ADD of two two-digit BCD numbers whose sum is below 100, DAA
leaves the BCD digits of the sum and no carry. -/
def Obligations.DecimalAdjustAfterBcdAddition : Prop :=
  ∀ (s : State) (x y : Nat), x + y < 100 → s.a = byteOf (x / 10 * 16 + x % 10) → s.b = byteOf (y / 10 * 16 + y % 10) →
    ∃ t, execAll [.addB, .daa] s = .next t ∧ t.a = byteOf ((x + y) / 10 * 16 + (x + y) % 10) ∧ t.f.cy = false

/-! ## Logic, compare, complement, rotate -/

/-- 42_logical.md R125 to R133: AND, exclusive OR and OR with a register, M and an immediate. -/
def Obligations.LogicFamily : Prop :=
  ∀ (s : State) (src : Reg) (d8 : Byte),
    encode (.ofAlu .ana src) = [byteOf (0xA0 + regCode src)] ∧ encode .anaM = [0xA6#8] ∧ encode (.ani d8) = [0xE6#8, d8] ∧
    encode (.ofAlu .xra src) = [byteOf (0xA8 + regCode src)] ∧ encode .xraM = [0xAE#8] ∧ encode (.xri d8) = [0xEE#8, d8] ∧
    encode (.ofAlu .ora src) = [byteOf (0xB0 + regCode src)] ∧ encode .oraM = [0xB6#8] ∧ encode (.ori d8) = [0xF6#8, d8] ∧
    LogicResultInA (.ofAlu .ana src) s (s.a &&& s.reg src) ∧
    LogicResultInA .anaM s (s.a &&& s.read (joinBytes s.h s.l)) ∧
    LogicResultInA (.ani d8) s (s.a &&& d8) ∧
    LogicResultInA (.ofAlu .xra src) s (s.a ^^^ s.reg src) ∧
    LogicResultInA .xraM s (s.a ^^^ s.read (joinBytes s.h s.l)) ∧
    LogicResultInA (.xri d8) s (s.a ^^^ d8) ∧
    LogicResultInA (.ofAlu .ora src) s (s.a ||| s.reg src) ∧
    LogicResultInA .oraM s (s.a ||| s.read (joinBytes s.h s.l)) ∧
    LogicResultInA (.ori d8) s (s.a ||| d8)

/-- 42_logical.md R134 to R136: CMP and CPI write only the flags, those of the discarded difference. Its ac is decision D4
(30_encoding.md R90). -/
def Obligations.CompareFamily : Prop :=
  ∀ (s : State) (src : Reg) (d8 : Byte),
    encode (.ofAlu .cmp src) = [byteOf (0xB8 + regCode src)] ∧ encode .cmpM = [0xBE#8] ∧ encode (.cpi d8) = [0xFE#8, d8] ∧
    ComparesWithA (.ofAlu .cmp src) s (s.reg src) ∧
    ComparesWithA .cmpM s (s.read (joinBytes s.h s.l)) ∧
    ComparesWithA (.cpi d8) s d8

/-- 42_logical.md R137 to R139 and 44_stack_control.md R179: the four instructions that the document does not name (decision D17). -/
def Obligations.ComplementCarryAndSphl : Prop :=
  ∀ s : State,
    encode .cma = [0x2F#8] ∧ encode .stc = [0x37#8] ∧ encode .cmc = [0x3F#8] ∧ encode .sphl = [0xF9#8] ∧
    (∃ t, exec .cma s = .next t ∧ t.a.toNat = 255 - s.a.toNat ∧ KeepsAllBut s t [.a] []) ∧
    (∃ t, exec .stc s = .next t ∧ t.f.cy = true ∧ KeepsAllBut s t [] [.cy]) ∧
    (∃ t, exec .cmc s = .next t ∧ t.f.cy = !s.f.cy ∧ KeepsAllBut s t [] [.cy]) ∧
    exec .sphl s = .next { s with sp := joinBytes s.h s.l }

/-- 43_rotate.md R140 to R143: each rotate, bit by bit; only A and CY change. That Z, S, P and AC are kept is decision D16, and which rotates
go through the carry is marked general knowledge (preamble of 43_rotate.md; log 12). -/
def Obligations.RotateFamily : Prop :=
  ∀ s : State,
    encode .rlc = [0x07#8] ∧ encode .rrc = [0x0F#8] ∧ encode .ral = [0x17#8] ∧ encode .rar = [0x1F#8] ∧
    (∃ t, exec .rlc s = .next t ∧ KeepsAllBut s t [.a] [.cy] ∧ t.f.cy = s.a.getLsbD 7 ∧
      t.a.getLsbD 0 = s.a.getLsbD 7 ∧ ∀ k, k < 7 → t.a.getLsbD (k + 1) = s.a.getLsbD k) ∧
    (∃ t, exec .rrc s = .next t ∧ KeepsAllBut s t [.a] [.cy] ∧ t.f.cy = s.a.getLsbD 0 ∧
      t.a.getLsbD 7 = s.a.getLsbD 0 ∧ ∀ k, k < 7 → t.a.getLsbD k = s.a.getLsbD (k + 1)) ∧
    (∃ t, exec .ral s = .next t ∧ KeepsAllBut s t [.a] [.cy] ∧ t.f.cy = s.a.getLsbD 7 ∧
      t.a.getLsbD 0 = s.f.cy ∧ ∀ k, k < 7 → t.a.getLsbD (k + 1) = s.a.getLsbD k) ∧
    (∃ t, exec .rar s = .next t ∧ KeepsAllBut s t [.a] [.cy] ∧ t.f.cy = s.a.getLsbD 0 ∧
      t.a.getLsbD 7 = s.f.cy ∧ ∀ k, k < 7 → t.a.getLsbD k = s.a.getLsbD (k + 1))

/-- The corner cases of 43_rotate.md R140 and R142, 42_logical.md R137 (decision D17) and 44_stack_control.md R180: eight RLCs restore A,
nine RALs restore A and CY, as do nine RARs; two CMAs restore A and two XCHGs both pairs. That the other flags are kept is decision D16,
and which rotates go through the carry is marked general knowledge (preamble of 43_rotate.md; log 12). -/
def Obligations.RepeatedOperationsRestore : Prop :=
  ∀ s : State,
    execAll (List.replicate 8 .rlc) s = .next { s with f := { s.f with cy := s.a.getLsbD 0 } } ∧
    execAll (List.replicate 8 .rrc) s = .next { s with f := { s.f with cy := s.a.getLsbD 7 } } ∧
    execAll (List.replicate 9 .ral) s = .next s ∧
    execAll (List.replicate 9 .rar) s = .next s ∧
    execAll [.cma, .cma] s = .next s ∧
    execAll [.xchg, .xchg] s = .next s

/-! ## Control transfer -/

/-- 44_stack_control.md R145 to R153: JMP and the eight conditional jumps. -/
def Obligations.JumpFamily : Prop :=
  ∀ (s : State) (cond : Cond) (lo hi : Byte),
    encode (.jmp (joinBytes hi lo)) = [0xC3#8, lo, hi] ∧
    encode (.ofJump cond (joinBytes hi lo)) = [byteOf (0xC2 + 8 * condCode cond), lo, hi] ∧
    exec (.jmp (joinBytes hi lo)) s = .next { s with pc := joinBytes hi lo } ∧
    (Taken s cond → exec (.ofJump cond (joinBytes hi lo)) s = .next { s with pc := joinBytes hi lo }) ∧
    (¬ Taken s cond → exec (.ofJump cond (joinBytes hi lo)) s = .next s)

/-- 44_stack_control.md R154 to R162: CALL and the eight conditional calls push the address of the next instruction. -/
def Obligations.CallFamily : Prop :=
  ∀ (s : State) (cond : Cond) (lo hi : Byte),
    encode (.call (joinBytes hi lo)) = [0xCD#8, lo, hi] ∧
    encode (.ofCall cond (joinBytes hi lo)) = [byteOf (0xC4 + 8 * condCode cond), lo, hi] ∧
    (∃ t, exec (.call (joinBytes hi lo)) s = .next t ∧
      t = { s with pc := joinBytes hi lo, sp := s.sp - 2, mem := t.mem, events := t.events } ∧
      StoresBytes s t [(s.sp - 2, lo8 s.pc), (s.sp - 1, hi8 s.pc)]) ∧
    (Taken s cond → ∃ t, exec (.ofCall cond (joinBytes hi lo)) s = .next t ∧
      t = { s with pc := joinBytes hi lo, sp := s.sp - 2, mem := t.mem, events := t.events } ∧
      StoresBytes s t [(s.sp - 2, lo8 s.pc), (s.sp - 1, hi8 s.pc)]) ∧
    (¬ Taken s cond → exec (.ofCall cond (joinBytes hi lo)) s = .next s)

/-- 44_stack_control.md R163 to R171: RET and the eight conditional returns. -/
def Obligations.ReturnFamily : Prop :=
  ∀ (s : State) (cond : Cond),
    encode .ret = [0xC9#8] ∧ encode (.ofRet cond) = [byteOf (0xC0 + 8 * condCode cond)] ∧
    exec .ret s = .next { s with pc := joinBytes (s.read (s.sp + 1)) (s.read s.sp), sp := s.sp + 2 } ∧
    (Taken s cond →
      exec (.ofRet cond) s = .next { s with pc := joinBytes (s.read (s.sp + 1)) (s.read s.sp), sp := s.sp + 2 }) ∧
    (¬ Taken s cond → exec (.ofRet cond) s = .next s)

/-- 44_stack_control.md R172 (the address 8 * n is marked as general knowledge there): RST n. -/
def Obligations.RestartCallsEightTimesN : Prop :=
  ∀ (s : State) (n : Fin 8),
    encode (.ofRst n) = [byteOf (0xC7 + 8 * n.val)] ∧
    ∃ t, exec (.ofRst n) s = .next t ∧ t.pc.toNat = 8 * n.val ∧
      t = { s with pc := t.pc, sp := s.sp - 2, mem := t.mem, events := t.events } ∧
      StoresBytes s t [(s.sp - 2, lo8 s.pc), (s.sp - 1, hi8 s.pc)]

/-- 44_stack_control.md R173, R180: PCHL and XCHG. -/
def Obligations.PchlAndXchg : Prop :=
  ∀ s : State, encode .pchl = [0xE9#8] ∧ encode .xchg = [0xEB#8] ∧
    exec .pchl s = .next { s with pc := joinBytes s.h s.l } ∧
    exec .xchg s = .next { s with h := s.d, l := s.e, d := s.h, e := s.l }

/-- 44_stack_control.md R174, R176: PUSH rp and POP rp. -/
def Obligations.PushAndPopPair : Prop :=
  ∀ (s : State) (p : Pair),
    encode (.ofPush p) = [byteOf (0xC5 + 16 * pairCode p)] ∧ encode (.ofPop p) = [byteOf (0xC1 + 16 * pairCode p)] ∧
    (∃ t, exec (.ofPush p) s = .next t ∧ t = { s with sp := s.sp - 2, mem := t.mem, events := t.events } ∧
      StoresBytes s t [(s.sp - 2, lo8 (s.pair p)), (s.sp - 1, hi8 (s.pair p))]) ∧
    (∃ t, exec (.ofPop p) s = .next t ∧ t.pair p = joinBytes (s.read (s.sp + 1)) (s.read s.sp) ∧ t.sp = s.sp + 2 ∧
      KeepsAllBut s { t with sp := s.sp } (pairRegs p) [])

/-- 44_stack_control.md R175, R177 (A in the high byte is decision D7, the fixed status bits D6): PUSH PSW and POP PSW. -/
def Obligations.PushAndPopStatusWord : Prop :=
  ∀ s : State, encode .pushPsw = [0xF5#8] ∧ encode .popPsw = [0xF1#8] ∧
    (∃ t, exec .pushPsw s = .next t ∧ t = { s with sp := s.sp - 2, mem := t.mem, events := t.events } ∧
      StoresBytes s t [(s.sp - 2, packPsw s.f), (s.sp - 1, s.a)]) ∧
    exec .popPsw s = .next { s with sp := s.sp + 2, a := s.read (s.sp + 1), f := unpackPsw (s.read s.sp) }

/-- 44_stack_control.md R178: XTHL exchanges HL with the top of the stack; HL gets the old bytes even when the writes are rejected. -/
def Obligations.ExchangeTopOfStackWithHl : Prop :=
  ∀ s : State, encode .xthl = [0xE3#8] ∧
    ∃ t, exec .xthl s = .next t ∧ t.l = s.read s.sp ∧ t.h = s.read (s.sp + 1) ∧
      t = { s with h := t.h, l := t.l, mem := t.mem, events := t.events } ∧
      StoresBytes s t [(s.sp, s.l), (s.sp + 1, s.h)]

/-- 44_stack_control.md R154, R163: a RET after a CALL whose two stack bytes are in RAM continues after the CALL with sp as it was. -/
def Obligations.ReturnComesBackAfterCall : Prop :=
  ∀ (s : State) (target : Word), s.mem.wf = true → InRam s.map (s.sp - 2) → InRam s.map (s.sp - 1) →
    ∃ t, execAll [.call target, .ret] s = .next t ∧ t = { s with mem := t.mem }

/-- The flag round trip and stack symmetry of 95_test_vectors.md W2 (44_stack_control.md R175, R177; decisions D6, D7): PUSH PSW, any change
of A and the flags by XRA A, and POP PSW restore A, the flags and sp. -/
def Obligations.StatusWordSurvivesTheStack : Prop :=
  ∀ s : State, s.mem.wf = true → InRam s.map (s.sp - 2) → InRam s.map (s.sp - 1) →
    ∃ t, execAll [.pushPsw, .xraA, .popPsw] s = .next t ∧ t = { s with mem := t.mem }

/-! ## Flow and interrupts -/

/-- 45_flow_interrupt.md R181, R182 (that EI acts at once is decision D14): EI and DI write the latch and nothing else. -/
def Obligations.EnableAndDisableInterrupts : Prop :=
  ∀ s : State, encode .ei = [0xFB#8] ∧ encode .di = [0xF3#8] ∧
    exec .ei s = .next { s with ie := true } ∧ exec .di s = .next { s with ie := false }

/-- 45_flow_interrupt.md R183 to R186: HLT, IN, OUT and NOP have no effect but the advance of pc, in the meaning and in a whole step. -/
def Obligations.HltInOutNopOnlyAdvancePc : Prop :=
  ∀ (s : State) (port : Byte),
    encode .hlt = [0x76#8] ∧ encode (.inPort port) = [0xDB#8, port] ∧ encode (.outPort port) = [0xD3#8, port] ∧ encode .nop = [0x00#8] ∧
    exec .hlt s = .next s ∧ exec (.inPort port) s = .next s ∧ exec (.outPort port) s = .next s ∧ exec .nop s = .next s ∧
    (s.read s.pc = 0x76#8 ∨ s.read s.pc = 0x00#8 →
      step s = .next { s with pc := s.pc + 1, events := [], cost := some (Config.cycles (s.read s.pc)) }) ∧
    (s.read s.pc = 0xDB#8 ∨ s.read s.pc = 0xD3#8 →
      step s = .next { s with pc := s.pc + 2, events := [], cost := some (Config.cycles (s.read s.pc)) })

/-- 60_exceptions.md R195 (the whole action is decision D13): InjectRST(n) with the latch on saves pc on the stack, clears the latch and
goes to 8 * n; with the latch off it has no effect (log 9: the output fields are cleared). -/
def Obligations.InterruptEntry : Prop :=
  ∀ (s : State) (n : Fin 8),
    (s.ie = true → (s.injectRst n).pc.toNat = 8 * n.val ∧
      s.injectRst n = { s with
        ie := false, pc := (s.injectRst n).pc, sp := s.sp - 2, mem := (s.injectRst n).mem, events := (s.injectRst n).events, cost := none } ∧
      StoresBytes { s with events := [] } (s.injectRst n) [(s.sp - 2, lo8 s.pc), (s.sp - 1, hi8 s.pc)]) ∧
    (s.ie = false → s.injectRst n = { s with events := [], cost := none })

/-! ## Whole-machine rules -/

/-- 10_state.md R19, column "written by": no instruction writes a register that the table does not list for it. -/
def Obligations.RegistersWrittenOnlyAsListed : Prop :=
  ∀ (i : Instr) (s t : State) (r : Reg), exec i s = .next t → r ∉ regsWritten i → t.reg r = s.reg r

/-- 10_state.md R26 (its ac column and the rows of INR, DCR, DAD, STC and CMC are decisions D3, D4, D16): no instruction writes a flag that
the table does not list for it. -/
def Obligations.FlagsWrittenOnlyAsListed : Prop :=
  ∀ (i : Instr) (s t : State) (n : FlagName), exec i s = .next t → n ∉ flagsWritten i → flagOf t.f n = flagOf s.f n

/-- 10_state.md R22, R28, R29, R30: sp, the latch and pc are written only by the instructions that the rules name; the partition by none. -/
def Obligations.StackLatchAndMapWrittenOnlyAsListed : Prop :=
  ∀ (i : Instr) (s t : State), exec i s = .next t →
    (writesSp i = false → t.sp = s.sp) ∧ (writesIe i = false → t.ie = s.ie) ∧
    (transfersControl i = false → t.pc = s.pc) ∧ t.map = s.map

/-- 20_memory.md R50 (column "writes"), R42, R43: for every instruction, the bytes of memory after it are those of its listed stores, every
other byte is unchanged, and the rejected stores are reported in order. -/
def Obligations.MemoryWrittenOnlyAsListed : Prop :=
  ∀ (i : Instr) (s t : State), exec i s = .next t → StoresBytes s t (storesOf s i)

/-- 60_exceptions.md R191: a step reports exactly the rejected writes of its instruction, in write order, each with its kind. It still
performs the other accesses, still completes with the cost of its opcode byte, and pc goes where it would go under any other partition. -/
def Obligations.StepReportsRejectedWritesAndCompletes : Prop :=
  ∀ s : State, s.read s.pc ∉ unrecognisedOpcodes →
    ∃ t, step s = .next t ∧ t.cost = some (Config.cycles (s.read s.pc)) ∧
      t.events = (storesOf s.beginStep s.fetchInstr).filterMap (rejectionOf s.map) ∧
      StoresBytes s.beginStep t (storesOf s.beginStep s.fetchInstr) ∧
      ∀ m t', step { s with map := m } = .next t' → t'.pc = t.pc
end

