-- ==== Sys2Proof/Laws/Decode.lean ====
section
/-! SUPPORT. The bytes of a word, and the opcode byte of each operand form. -/

namespace Sys2Proof

/-- The low byte as a number (00_scope.md R8). -/
theorem lo8_toNat (v : Word) : (lo8 v).toNat = v.toNat % 256 := by
  simp [lo8]

/-- The high byte as a number (00_scope.md R8). -/
theorem hi8_toNat (v : Word) : (hi8 v).toNat = v.toNat / 256 := by
  have hv : v.toNat < 65536 := v.isLt
  simp only [hi8, BitVec.extractLsb'_toNat, Nat.shiftRight_eq_div_pow]
  omega

/-- Two joined bytes as a number (00_scope.md R9). -/
theorem joinBytes_toNat (hi lo : Byte) : (joinBytes hi lo).toNat = hi.toNat * 256 + lo.toNat := by
  have hl : lo.toNat < 2 ^ 8 := lo.isLt
  unfold joinBytes
  rw [BitVec.toNat_append, ← Nat.shiftLeft_add_eq_or_of_lt hl, Nat.shiftLeft_eq]

/-- A word is its two bytes. -/
@[simp] theorem joinBytes_hi8_lo8 (v : Word) : joinBytes (hi8 v) (lo8 v) = v := by
  apply BitVec.eq_of_toNat_eq
  rw [joinBytes_toNat, lo8_toNat, hi8_toNat]
  omega

/-- The low byte of two joined bytes. -/
@[simp] theorem lo8_joinBytes (hi lo : Byte) : lo8 (joinBytes hi lo) = lo := by
  have hl : lo.toNat < 256 := lo.isLt
  apply BitVec.eq_of_toNat_eq
  rw [lo8_toNat, joinBytes_toNat]
  omega

/-- The high byte of two joined bytes. -/
@[simp] theorem hi8_joinBytes (hi lo : Byte) : hi8 (joinBytes hi lo) = hi := by
  have hl : lo.toNat < 256 := lo.isLt
  apply BitVec.eq_of_toNat_eq
  rw [hi8_toNat, joinBytes_toNat]
  omega

open Sys2Proof.Machine

/-- The opcode byte of MOV r1,r2: `01 ddd sss` (30_encoding.md R65). -/
theorem opcode_ofMov (dst src : Reg) : (Instr.ofMov dst src).opcode = byteOf (0x40 + 8 * regCode dst + regCode src) := by
  cases dst <;> cases src <;> rfl

/-- The opcode byte of an ALU operation on a register: `10 ooo sss` (30_encoding.md R65). -/
theorem opcode_ofAlu (op : AluOp) (src : Reg) : (Instr.ofAlu op src).opcode = byteOf (0x80 + 8 * aluCode op + regCode src) := by
  cases op <;> cases src <;> rfl

/-- The opcode byte of an immediate ALU operation: `11 ooo 110` (30_encoding.md R65). -/
theorem opcode_ofAluImm (op : AluOp) (v : Byte) : (Instr.ofAluImm op v).opcode = byteOf (0xC6 + 8 * aluCode op) := by
  cases op <;> rfl

end Sys2Proof
end

