-- ==== Sys2Proof/Laws/State.lean ====
section
/-! SUPPORT. One lemma per field per update of State, so that no later proof unfolds a record update. -/

namespace Sys2Proof.Machine

/-! ## reject -/

@[simp] theorem State.reject_a (s : State) (addr : Word) (v : Byte) (k : RejectKind) : (s.reject addr v k).a = s.a := rfl
@[simp] theorem State.reject_b (s : State) (addr : Word) (v : Byte) (k : RejectKind) : (s.reject addr v k).b = s.b := rfl
@[simp] theorem State.reject_c (s : State) (addr : Word) (v : Byte) (k : RejectKind) : (s.reject addr v k).c = s.c := rfl
@[simp] theorem State.reject_d (s : State) (addr : Word) (v : Byte) (k : RejectKind) : (s.reject addr v k).d = s.d := rfl
@[simp] theorem State.reject_e (s : State) (addr : Word) (v : Byte) (k : RejectKind) : (s.reject addr v k).e = s.e := rfl
@[simp] theorem State.reject_h (s : State) (addr : Word) (v : Byte) (k : RejectKind) : (s.reject addr v k).h = s.h := rfl
@[simp] theorem State.reject_l (s : State) (addr : Word) (v : Byte) (k : RejectKind) : (s.reject addr v k).l = s.l := rfl
@[simp] theorem State.reject_f (s : State) (addr : Word) (v : Byte) (k : RejectKind) : (s.reject addr v k).f = s.f := rfl
@[simp] theorem State.reject_pc (s : State) (addr : Word) (v : Byte) (k : RejectKind) : (s.reject addr v k).pc = s.pc := rfl
@[simp] theorem State.reject_sp (s : State) (addr : Word) (v : Byte) (k : RejectKind) : (s.reject addr v k).sp = s.sp := rfl
@[simp] theorem State.reject_ie (s : State) (addr : Word) (v : Byte) (k : RejectKind) : (s.reject addr v k).ie = s.ie := rfl
@[simp] theorem State.reject_mem (s : State) (addr : Word) (v : Byte) (k : RejectKind) : (s.reject addr v k).mem = s.mem := rfl
@[simp] theorem State.reject_map (s : State) (addr : Word) (v : Byte) (k : RejectKind) : (s.reject addr v k).map = s.map := rfl
@[simp] theorem State.reject_cost (s : State) (addr : Word) (v : Byte) (k : RejectKind) : (s.reject addr v k).cost = s.cost := rfl
@[simp] theorem State.reject_events (s : State) (addr : Word) (v : Byte) (k : RejectKind) : (s.reject addr v k).events = s.events ++ [{ addr := addr, value := v, kind := k }] := rfl

/-! ## write -/

@[simp] theorem State.write_a (s : State) (addr : Word) (v : Byte) : (s.write addr v).a = s.a := by
  unfold State.write; split_ifs <;> rfl
@[simp] theorem State.write_b (s : State) (addr : Word) (v : Byte) : (s.write addr v).b = s.b := by
  unfold State.write; split_ifs <;> rfl
@[simp] theorem State.write_c (s : State) (addr : Word) (v : Byte) : (s.write addr v).c = s.c := by
  unfold State.write; split_ifs <;> rfl
@[simp] theorem State.write_d (s : State) (addr : Word) (v : Byte) : (s.write addr v).d = s.d := by
  unfold State.write; split_ifs <;> rfl
@[simp] theorem State.write_e (s : State) (addr : Word) (v : Byte) : (s.write addr v).e = s.e := by
  unfold State.write; split_ifs <;> rfl
@[simp] theorem State.write_h (s : State) (addr : Word) (v : Byte) : (s.write addr v).h = s.h := by
  unfold State.write; split_ifs <;> rfl
@[simp] theorem State.write_l (s : State) (addr : Word) (v : Byte) : (s.write addr v).l = s.l := by
  unfold State.write; split_ifs <;> rfl
@[simp] theorem State.write_f (s : State) (addr : Word) (v : Byte) : (s.write addr v).f = s.f := by
  unfold State.write; split_ifs <;> rfl
@[simp] theorem State.write_pc (s : State) (addr : Word) (v : Byte) : (s.write addr v).pc = s.pc := by
  unfold State.write; split_ifs <;> rfl
@[simp] theorem State.write_sp (s : State) (addr : Word) (v : Byte) : (s.write addr v).sp = s.sp := by
  unfold State.write; split_ifs <;> rfl
@[simp] theorem State.write_ie (s : State) (addr : Word) (v : Byte) : (s.write addr v).ie = s.ie := by
  unfold State.write; split_ifs <;> rfl
@[simp] theorem State.write_map (s : State) (addr : Word) (v : Byte) : (s.write addr v).map = s.map := by
  unfold State.write; split_ifs <;> rfl
@[simp] theorem State.write_cost (s : State) (addr : Word) (v : Byte) : (s.write addr v).cost = s.cost := by
  unfold State.write; split_ifs <;> rfl

/-! ## write16 -/

@[simp] theorem State.write16_a (s : State) (addr v : Word) : (s.write16 addr v).a = s.a := by
  simp [State.write16]
@[simp] theorem State.write16_b (s : State) (addr v : Word) : (s.write16 addr v).b = s.b := by
  simp [State.write16]
@[simp] theorem State.write16_c (s : State) (addr v : Word) : (s.write16 addr v).c = s.c := by
  simp [State.write16]
@[simp] theorem State.write16_d (s : State) (addr v : Word) : (s.write16 addr v).d = s.d := by
  simp [State.write16]
@[simp] theorem State.write16_e (s : State) (addr v : Word) : (s.write16 addr v).e = s.e := by
  simp [State.write16]
@[simp] theorem State.write16_h (s : State) (addr v : Word) : (s.write16 addr v).h = s.h := by
  simp [State.write16]
@[simp] theorem State.write16_l (s : State) (addr v : Word) : (s.write16 addr v).l = s.l := by
  simp [State.write16]
@[simp] theorem State.write16_f (s : State) (addr v : Word) : (s.write16 addr v).f = s.f := by
  simp [State.write16]
@[simp] theorem State.write16_pc (s : State) (addr v : Word) : (s.write16 addr v).pc = s.pc := by
  simp [State.write16]
@[simp] theorem State.write16_sp (s : State) (addr v : Word) : (s.write16 addr v).sp = s.sp := by
  simp [State.write16]
@[simp] theorem State.write16_ie (s : State) (addr v : Word) : (s.write16 addr v).ie = s.ie := by
  simp [State.write16]
@[simp] theorem State.write16_map (s : State) (addr v : Word) : (s.write16 addr v).map = s.map := by
  simp [State.write16]
@[simp] theorem State.write16_cost (s : State) (addr v : Word) : (s.write16 addr v).cost = s.cost := by
  simp [State.write16]

/-! ## push -/

@[simp] theorem State.push_a (s : State) (v : Word) : (s.push v).a = s.a := by
  simp [State.push]
@[simp] theorem State.push_b (s : State) (v : Word) : (s.push v).b = s.b := by
  simp [State.push]
@[simp] theorem State.push_c (s : State) (v : Word) : (s.push v).c = s.c := by
  simp [State.push]
@[simp] theorem State.push_d (s : State) (v : Word) : (s.push v).d = s.d := by
  simp [State.push]
@[simp] theorem State.push_e (s : State) (v : Word) : (s.push v).e = s.e := by
  simp [State.push]
@[simp] theorem State.push_h (s : State) (v : Word) : (s.push v).h = s.h := by
  simp [State.push]
@[simp] theorem State.push_l (s : State) (v : Word) : (s.push v).l = s.l := by
  simp [State.push]
@[simp] theorem State.push_f (s : State) (v : Word) : (s.push v).f = s.f := by
  simp [State.push]
@[simp] theorem State.push_pc (s : State) (v : Word) : (s.push v).pc = s.pc := by
  simp [State.push]
@[simp] theorem State.push_ie (s : State) (v : Word) : (s.push v).ie = s.ie := by
  simp [State.push]
@[simp] theorem State.push_map (s : State) (v : Word) : (s.push v).map = s.map := by
  simp [State.push]
@[simp] theorem State.push_cost (s : State) (v : Word) : (s.push v).cost = s.cost := by
  simp [State.push]
@[simp] theorem State.push_sp (s : State) (v : Word) : (s.push v).sp = s.sp - 2 := rfl

/-! ## dropTop -/

@[simp] theorem State.dropTop_a (s : State)  : (s.dropTop).a = s.a := rfl
@[simp] theorem State.dropTop_b (s : State)  : (s.dropTop).b = s.b := rfl
@[simp] theorem State.dropTop_c (s : State)  : (s.dropTop).c = s.c := rfl
@[simp] theorem State.dropTop_d (s : State)  : (s.dropTop).d = s.d := rfl
@[simp] theorem State.dropTop_e (s : State)  : (s.dropTop).e = s.e := rfl
@[simp] theorem State.dropTop_h (s : State)  : (s.dropTop).h = s.h := rfl
@[simp] theorem State.dropTop_l (s : State)  : (s.dropTop).l = s.l := rfl
@[simp] theorem State.dropTop_f (s : State)  : (s.dropTop).f = s.f := rfl
@[simp] theorem State.dropTop_pc (s : State)  : (s.dropTop).pc = s.pc := rfl
@[simp] theorem State.dropTop_ie (s : State)  : (s.dropTop).ie = s.ie := rfl
@[simp] theorem State.dropTop_mem (s : State)  : (s.dropTop).mem = s.mem := rfl
@[simp] theorem State.dropTop_map (s : State)  : (s.dropTop).map = s.map := rfl
@[simp] theorem State.dropTop_events (s : State)  : (s.dropTop).events = s.events := rfl
@[simp] theorem State.dropTop_cost (s : State)  : (s.dropTop).cost = s.cost := rfl
@[simp] theorem State.dropTop_sp (s : State)  : s.dropTop.sp = s.sp + 2 := rfl

/-! ## popPc -/

@[simp] theorem State.popPc_a (s : State)  : (s.popPc).a = s.a := rfl
@[simp] theorem State.popPc_b (s : State)  : (s.popPc).b = s.b := rfl
@[simp] theorem State.popPc_c (s : State)  : (s.popPc).c = s.c := rfl
@[simp] theorem State.popPc_d (s : State)  : (s.popPc).d = s.d := rfl
@[simp] theorem State.popPc_e (s : State)  : (s.popPc).e = s.e := rfl
@[simp] theorem State.popPc_h (s : State)  : (s.popPc).h = s.h := rfl
@[simp] theorem State.popPc_l (s : State)  : (s.popPc).l = s.l := rfl
@[simp] theorem State.popPc_f (s : State)  : (s.popPc).f = s.f := rfl
@[simp] theorem State.popPc_ie (s : State)  : (s.popPc).ie = s.ie := rfl
@[simp] theorem State.popPc_mem (s : State)  : (s.popPc).mem = s.mem := rfl
@[simp] theorem State.popPc_map (s : State)  : (s.popPc).map = s.map := rfl
@[simp] theorem State.popPc_events (s : State)  : (s.popPc).events = s.events := rfl
@[simp] theorem State.popPc_cost (s : State)  : (s.popPc).cost = s.cost := rfl
@[simp] theorem State.popPc_sp (s : State)  : s.popPc.sp = s.sp + 2 := rfl
@[simp] theorem State.popPc_pc (s : State)  : s.popPc.pc = s.top := rfl

/-! ## jump -/

@[simp] theorem State.jump_a (s : State) (target : Word) : (s.jump target).a = s.a := rfl
@[simp] theorem State.jump_b (s : State) (target : Word) : (s.jump target).b = s.b := rfl
@[simp] theorem State.jump_c (s : State) (target : Word) : (s.jump target).c = s.c := rfl
@[simp] theorem State.jump_d (s : State) (target : Word) : (s.jump target).d = s.d := rfl
@[simp] theorem State.jump_e (s : State) (target : Word) : (s.jump target).e = s.e := rfl
@[simp] theorem State.jump_h (s : State) (target : Word) : (s.jump target).h = s.h := rfl
@[simp] theorem State.jump_l (s : State) (target : Word) : (s.jump target).l = s.l := rfl
@[simp] theorem State.jump_f (s : State) (target : Word) : (s.jump target).f = s.f := rfl
@[simp] theorem State.jump_sp (s : State) (target : Word) : (s.jump target).sp = s.sp := rfl
@[simp] theorem State.jump_ie (s : State) (target : Word) : (s.jump target).ie = s.ie := rfl
@[simp] theorem State.jump_mem (s : State) (target : Word) : (s.jump target).mem = s.mem := rfl
@[simp] theorem State.jump_map (s : State) (target : Word) : (s.jump target).map = s.map := rfl
@[simp] theorem State.jump_events (s : State) (target : Word) : (s.jump target).events = s.events := rfl
@[simp] theorem State.jump_cost (s : State) (target : Word) : (s.jump target).cost = s.cost := rfl
@[simp] theorem State.jump_pc (s : State) (target : Word) : (s.jump target).pc = target := rfl

/-! ## call -/

@[simp] theorem State.call_a (s : State) (target : Word) : (s.call target).a = s.a := by
  simp [State.call]
@[simp] theorem State.call_b (s : State) (target : Word) : (s.call target).b = s.b := by
  simp [State.call]
@[simp] theorem State.call_c (s : State) (target : Word) : (s.call target).c = s.c := by
  simp [State.call]
@[simp] theorem State.call_d (s : State) (target : Word) : (s.call target).d = s.d := by
  simp [State.call]
@[simp] theorem State.call_e (s : State) (target : Word) : (s.call target).e = s.e := by
  simp [State.call]
@[simp] theorem State.call_h (s : State) (target : Word) : (s.call target).h = s.h := by
  simp [State.call]
@[simp] theorem State.call_l (s : State) (target : Word) : (s.call target).l = s.l := by
  simp [State.call]
@[simp] theorem State.call_f (s : State) (target : Word) : (s.call target).f = s.f := by
  simp [State.call]
@[simp] theorem State.call_ie (s : State) (target : Word) : (s.call target).ie = s.ie := by
  simp [State.call]
@[simp] theorem State.call_map (s : State) (target : Word) : (s.call target).map = s.map := by
  simp [State.call]
@[simp] theorem State.call_cost (s : State) (target : Word) : (s.call target).cost = s.cost := by
  simp [State.call]
@[simp] theorem State.call_sp (s : State) (target : Word) : (s.call target).sp = s.sp - 2 := rfl
@[simp] theorem State.call_pc (s : State) (target : Word) : (s.call target).pc = target := rfl

/-! ## restart -/

@[simp] theorem State.restart_a (s : State) (n : Fin 8) : (s.restart n).a = s.a := by
  simp [State.restart]
@[simp] theorem State.restart_b (s : State) (n : Fin 8) : (s.restart n).b = s.b := by
  simp [State.restart]
@[simp] theorem State.restart_c (s : State) (n : Fin 8) : (s.restart n).c = s.c := by
  simp [State.restart]
@[simp] theorem State.restart_d (s : State) (n : Fin 8) : (s.restart n).d = s.d := by
  simp [State.restart]
@[simp] theorem State.restart_e (s : State) (n : Fin 8) : (s.restart n).e = s.e := by
  simp [State.restart]
@[simp] theorem State.restart_h (s : State) (n : Fin 8) : (s.restart n).h = s.h := by
  simp [State.restart]
@[simp] theorem State.restart_l (s : State) (n : Fin 8) : (s.restart n).l = s.l := by
  simp [State.restart]
@[simp] theorem State.restart_f (s : State) (n : Fin 8) : (s.restart n).f = s.f := by
  simp [State.restart]
@[simp] theorem State.restart_ie (s : State) (n : Fin 8) : (s.restart n).ie = s.ie := by
  simp [State.restart]
@[simp] theorem State.restart_map (s : State) (n : Fin 8) : (s.restart n).map = s.map := by
  simp [State.restart]
@[simp] theorem State.restart_cost (s : State) (n : Fin 8) : (s.restart n).cost = s.cost := by
  simp [State.restart]
@[simp] theorem State.restart_sp (s : State) (n : Fin 8) : (s.restart n).sp = s.sp - 2 := rfl
@[simp] theorem State.restart_pc (s : State) (n : Fin 8) : (s.restart n).pc = restartAddr n := rfl

/-! ## setReg -/

@[simp] theorem State.setReg_f (s : State) (r : Reg) (v : Byte) : (s.setReg r v).f = s.f := by
  cases r <;> rfl
@[simp] theorem State.setReg_pc (s : State) (r : Reg) (v : Byte) : (s.setReg r v).pc = s.pc := by
  cases r <;> rfl
@[simp] theorem State.setReg_sp (s : State) (r : Reg) (v : Byte) : (s.setReg r v).sp = s.sp := by
  cases r <;> rfl
@[simp] theorem State.setReg_ie (s : State) (r : Reg) (v : Byte) : (s.setReg r v).ie = s.ie := by
  cases r <;> rfl
@[simp] theorem State.setReg_mem (s : State) (r : Reg) (v : Byte) : (s.setReg r v).mem = s.mem := by
  cases r <;> rfl
@[simp] theorem State.setReg_map (s : State) (r : Reg) (v : Byte) : (s.setReg r v).map = s.map := by
  cases r <;> rfl
@[simp] theorem State.setReg_events (s : State) (r : Reg) (v : Byte) : (s.setReg r v).events = s.events := by
  cases r <;> rfl
@[simp] theorem State.setReg_cost (s : State) (r : Reg) (v : Byte) : (s.setReg r v).cost = s.cost := by
  cases r <;> rfl
@[simp] theorem State.setReg_reg_same (s : State) (r : Reg) (v : Byte) : (s.setReg r v).reg r = v := by
  cases r <;> rfl

theorem State.setReg_reg_other (s : State) (r r' : Reg) (v : Byte) (h : r' ≠ r) : (s.setReg r v).reg r' = s.reg r' := by
  cases r <;> cases r' <;> first | rfl | exact absurd rfl h

/-! ## setPair -/

@[simp] theorem State.setPair_f (s : State) (p : Pair) (v : Word) : (s.setPair p v).f = s.f := by
  cases p <;> rfl
@[simp] theorem State.setPair_pc (s : State) (p : Pair) (v : Word) : (s.setPair p v).pc = s.pc := by
  cases p <;> rfl
@[simp] theorem State.setPair_sp (s : State) (p : Pair) (v : Word) : (s.setPair p v).sp = s.sp := by
  cases p <;> rfl
@[simp] theorem State.setPair_ie (s : State) (p : Pair) (v : Word) : (s.setPair p v).ie = s.ie := by
  cases p <;> rfl
@[simp] theorem State.setPair_mem (s : State) (p : Pair) (v : Word) : (s.setPair p v).mem = s.mem := by
  cases p <;> rfl
@[simp] theorem State.setPair_map (s : State) (p : Pair) (v : Word) : (s.setPair p v).map = s.map := by
  cases p <;> rfl
@[simp] theorem State.setPair_events (s : State) (p : Pair) (v : Word) : (s.setPair p v).events = s.events := by
  cases p <;> rfl
@[simp] theorem State.setPair_cost (s : State) (p : Pair) (v : Word) : (s.setPair p v).cost = s.cost := by
  cases p <;> rfl

/-! ## setRp -/

@[simp] theorem State.setRp_f (s : State) (rp : Rp) (v : Word) : (s.setRp rp v).f = s.f := by
  cases rp <;> simp [State.setRp]
@[simp] theorem State.setRp_pc (s : State) (rp : Rp) (v : Word) : (s.setRp rp v).pc = s.pc := by
  cases rp <;> simp [State.setRp]
@[simp] theorem State.setRp_ie (s : State) (rp : Rp) (v : Word) : (s.setRp rp v).ie = s.ie := by
  cases rp <;> simp [State.setRp]
@[simp] theorem State.setRp_mem (s : State) (rp : Rp) (v : Word) : (s.setRp rp v).mem = s.mem := by
  cases rp <;> simp [State.setRp]
@[simp] theorem State.setRp_map (s : State) (rp : Rp) (v : Word) : (s.setRp rp v).map = s.map := by
  cases rp <;> simp [State.setRp]
@[simp] theorem State.setRp_events (s : State) (rp : Rp) (v : Word) : (s.setRp rp v).events = s.events := by
  cases rp <;> simp [State.setRp]
@[simp] theorem State.setRp_cost (s : State) (rp : Rp) (v : Word) : (s.setRp rp v).cost = s.cost := by
  cases rp <;> simp [State.setRp]

/-! ## loadA -/

@[simp] theorem State.loadA_b (s : State) (addr : Word) : (s.loadA addr).b = s.b := rfl
@[simp] theorem State.loadA_c (s : State) (addr : Word) : (s.loadA addr).c = s.c := rfl
@[simp] theorem State.loadA_d (s : State) (addr : Word) : (s.loadA addr).d = s.d := rfl
@[simp] theorem State.loadA_e (s : State) (addr : Word) : (s.loadA addr).e = s.e := rfl
@[simp] theorem State.loadA_h (s : State) (addr : Word) : (s.loadA addr).h = s.h := rfl
@[simp] theorem State.loadA_l (s : State) (addr : Word) : (s.loadA addr).l = s.l := rfl
@[simp] theorem State.loadA_f (s : State) (addr : Word) : (s.loadA addr).f = s.f := rfl
@[simp] theorem State.loadA_pc (s : State) (addr : Word) : (s.loadA addr).pc = s.pc := rfl
@[simp] theorem State.loadA_sp (s : State) (addr : Word) : (s.loadA addr).sp = s.sp := rfl
@[simp] theorem State.loadA_ie (s : State) (addr : Word) : (s.loadA addr).ie = s.ie := rfl
@[simp] theorem State.loadA_mem (s : State) (addr : Word) : (s.loadA addr).mem = s.mem := rfl
@[simp] theorem State.loadA_map (s : State) (addr : Word) : (s.loadA addr).map = s.map := rfl
@[simp] theorem State.loadA_events (s : State) (addr : Word) : (s.loadA addr).events = s.events := rfl
@[simp] theorem State.loadA_cost (s : State) (addr : Word) : (s.loadA addr).cost = s.cost := rfl
@[simp] theorem State.loadA_a (s : State) (addr : Word) : (s.loadA addr).a = s.read addr := rfl

/-! ## setAcc -/

@[simp] theorem State.setAcc_b (s : State) (r : AluResult) : (s.setAcc r).b = s.b := rfl
@[simp] theorem State.setAcc_c (s : State) (r : AluResult) : (s.setAcc r).c = s.c := rfl
@[simp] theorem State.setAcc_d (s : State) (r : AluResult) : (s.setAcc r).d = s.d := rfl
@[simp] theorem State.setAcc_e (s : State) (r : AluResult) : (s.setAcc r).e = s.e := rfl
@[simp] theorem State.setAcc_h (s : State) (r : AluResult) : (s.setAcc r).h = s.h := rfl
@[simp] theorem State.setAcc_l (s : State) (r : AluResult) : (s.setAcc r).l = s.l := rfl
@[simp] theorem State.setAcc_pc (s : State) (r : AluResult) : (s.setAcc r).pc = s.pc := rfl
@[simp] theorem State.setAcc_sp (s : State) (r : AluResult) : (s.setAcc r).sp = s.sp := rfl
@[simp] theorem State.setAcc_ie (s : State) (r : AluResult) : (s.setAcc r).ie = s.ie := rfl
@[simp] theorem State.setAcc_mem (s : State) (r : AluResult) : (s.setAcc r).mem = s.mem := rfl
@[simp] theorem State.setAcc_map (s : State) (r : AluResult) : (s.setAcc r).map = s.map := rfl
@[simp] theorem State.setAcc_events (s : State) (r : AluResult) : (s.setAcc r).events = s.events := rfl
@[simp] theorem State.setAcc_cost (s : State) (r : AluResult) : (s.setAcc r).cost = s.cost := rfl
@[simp] theorem State.setAcc_a (s : State) (r : AluResult) : (s.setAcc r).a = r.value := rfl
@[simp] theorem State.setAcc_f (s : State) (r : AluResult) : (s.setAcc r).f = r.flags := rfl

/-! ## alu -/

@[simp] theorem State.alu_b (s : State) (op : AluOp) (v : Byte) : (s.alu op v).b = s.b := by
  cases op <;> rfl
@[simp] theorem State.alu_c (s : State) (op : AluOp) (v : Byte) : (s.alu op v).c = s.c := by
  cases op <;> rfl
@[simp] theorem State.alu_d (s : State) (op : AluOp) (v : Byte) : (s.alu op v).d = s.d := by
  cases op <;> rfl
@[simp] theorem State.alu_e (s : State) (op : AluOp) (v : Byte) : (s.alu op v).e = s.e := by
  cases op <;> rfl
@[simp] theorem State.alu_h (s : State) (op : AluOp) (v : Byte) : (s.alu op v).h = s.h := by
  cases op <;> rfl
@[simp] theorem State.alu_l (s : State) (op : AluOp) (v : Byte) : (s.alu op v).l = s.l := by
  cases op <;> rfl
@[simp] theorem State.alu_pc (s : State) (op : AluOp) (v : Byte) : (s.alu op v).pc = s.pc := by
  cases op <;> rfl
@[simp] theorem State.alu_sp (s : State) (op : AluOp) (v : Byte) : (s.alu op v).sp = s.sp := by
  cases op <;> rfl
@[simp] theorem State.alu_ie (s : State) (op : AluOp) (v : Byte) : (s.alu op v).ie = s.ie := by
  cases op <;> rfl
@[simp] theorem State.alu_mem (s : State) (op : AluOp) (v : Byte) : (s.alu op v).mem = s.mem := by
  cases op <;> rfl
@[simp] theorem State.alu_map (s : State) (op : AluOp) (v : Byte) : (s.alu op v).map = s.map := by
  cases op <;> rfl
@[simp] theorem State.alu_events (s : State) (op : AluOp) (v : Byte) : (s.alu op v).events = s.events := by
  cases op <;> rfl
@[simp] theorem State.alu_cost (s : State) (op : AluOp) (v : Byte) : (s.alu op v).cost = s.cost := by
  cases op <;> rfl

/-! ## rotateA -/

@[simp] theorem State.rotateA_b (s : State) (r : RotateResult) : (s.rotateA r).b = s.b := rfl
@[simp] theorem State.rotateA_c (s : State) (r : RotateResult) : (s.rotateA r).c = s.c := rfl
@[simp] theorem State.rotateA_d (s : State) (r : RotateResult) : (s.rotateA r).d = s.d := rfl
@[simp] theorem State.rotateA_e (s : State) (r : RotateResult) : (s.rotateA r).e = s.e := rfl
@[simp] theorem State.rotateA_h (s : State) (r : RotateResult) : (s.rotateA r).h = s.h := rfl
@[simp] theorem State.rotateA_l (s : State) (r : RotateResult) : (s.rotateA r).l = s.l := rfl
@[simp] theorem State.rotateA_pc (s : State) (r : RotateResult) : (s.rotateA r).pc = s.pc := rfl
@[simp] theorem State.rotateA_sp (s : State) (r : RotateResult) : (s.rotateA r).sp = s.sp := rfl
@[simp] theorem State.rotateA_ie (s : State) (r : RotateResult) : (s.rotateA r).ie = s.ie := rfl
@[simp] theorem State.rotateA_mem (s : State) (r : RotateResult) : (s.rotateA r).mem = s.mem := rfl
@[simp] theorem State.rotateA_map (s : State) (r : RotateResult) : (s.rotateA r).map = s.map := rfl
@[simp] theorem State.rotateA_events (s : State) (r : RotateResult) : (s.rotateA r).events = s.events := rfl
@[simp] theorem State.rotateA_cost (s : State) (r : RotateResult) : (s.rotateA r).cost = s.cost := rfl
@[simp] theorem State.rotateA_a (s : State) (r : RotateResult) : (s.rotateA r).a = r.value := rfl
@[simp] theorem State.rotateA_f (s : State) (r : RotateResult) : (s.rotateA r).f = { s.f with cy := r.cy } := rfl

/-! ## xchg -/

@[simp] theorem State.xchg_a (s : State)  : (s.xchg).a = s.a := rfl
@[simp] theorem State.xchg_b (s : State)  : (s.xchg).b = s.b := rfl
@[simp] theorem State.xchg_c (s : State)  : (s.xchg).c = s.c := rfl
@[simp] theorem State.xchg_f (s : State)  : (s.xchg).f = s.f := rfl
@[simp] theorem State.xchg_pc (s : State)  : (s.xchg).pc = s.pc := rfl
@[simp] theorem State.xchg_sp (s : State)  : (s.xchg).sp = s.sp := rfl
@[simp] theorem State.xchg_ie (s : State)  : (s.xchg).ie = s.ie := rfl
@[simp] theorem State.xchg_mem (s : State)  : (s.xchg).mem = s.mem := rfl
@[simp] theorem State.xchg_map (s : State)  : (s.xchg).map = s.map := rfl
@[simp] theorem State.xchg_events (s : State)  : (s.xchg).events = s.events := rfl
@[simp] theorem State.xchg_cost (s : State)  : (s.xchg).cost = s.cost := rfl
@[simp] theorem State.xchg_d (s : State)  : s.xchg.d = s.h := rfl
@[simp] theorem State.xchg_e (s : State)  : s.xchg.e = s.l := rfl
@[simp] theorem State.xchg_h (s : State)  : s.xchg.h = s.d := rfl
@[simp] theorem State.xchg_l (s : State)  : s.xchg.l = s.e := rfl

/-! ## beginStep -/

@[simp] theorem State.beginStep_a (s : State)  : (s.beginStep).a = s.a := rfl
@[simp] theorem State.beginStep_b (s : State)  : (s.beginStep).b = s.b := rfl
@[simp] theorem State.beginStep_c (s : State)  : (s.beginStep).c = s.c := rfl
@[simp] theorem State.beginStep_d (s : State)  : (s.beginStep).d = s.d := rfl
@[simp] theorem State.beginStep_e (s : State)  : (s.beginStep).e = s.e := rfl
@[simp] theorem State.beginStep_h (s : State)  : (s.beginStep).h = s.h := rfl
@[simp] theorem State.beginStep_l (s : State)  : (s.beginStep).l = s.l := rfl
@[simp] theorem State.beginStep_f (s : State)  : (s.beginStep).f = s.f := rfl
@[simp] theorem State.beginStep_sp (s : State)  : (s.beginStep).sp = s.sp := rfl
@[simp] theorem State.beginStep_ie (s : State)  : (s.beginStep).ie = s.ie := rfl
@[simp] theorem State.beginStep_mem (s : State)  : (s.beginStep).mem = s.mem := rfl
@[simp] theorem State.beginStep_map (s : State)  : (s.beginStep).map = s.map := rfl
@[simp] theorem State.beginStep_pc (s : State)  : s.beginStep.pc = s.pc + BitVec.ofNat 16 (opcodeLength (s.fetchByte 0)) := rfl
@[simp] theorem State.beginStep_events (s : State)  : s.beginStep.events = [] := rfl
@[simp] theorem State.beginStep_cost (s : State)  : s.beginStep.cost = none := rfl

end Sys2Proof.Machine
end

