-- ==== Sys2Proof/Laws/Memory.lean ====
section
/-! SUPPORT. What the memory operations do: read after write, and that each keeps the canonical form. -/

namespace Sys2Proof.Machine

/-! ## Lists of cells -/

/-- The canonical form of a nonempty list, one fact at a time. -/
theorem Memory.wf_cons {j : Nat} {w : Byte} {m : Memory} :
    Memory.wf ((j, w) :: m) = true ↔
      j < 65536 ∧ w ≠ Memory.unlisted ∧ (∀ cell ∈ m, j < cell.1) ∧ Memory.wf m = true := by
  simp [Memory.wf, and_assoc]

/-- Below every listed address nothing is listed. -/
theorem Memory.read_below {m : Memory} {k : Nat} (h : ∀ cell ∈ m, k < cell.1) : Memory.read m k = Memory.unlisted := by
  induction m with
  | nil => rfl
  | cons cell m ih =>
    obtain ⟨j, w⟩ := cell
    have hj : k < j := h (j, w) (by simp)
    simp only [Memory.read, if_neg (by omega : ¬ j = k)]
    exact ih fun c hc => h c (by simp [hc])

/-- A write leaves every other address alone. -/
theorem Memory.read_write_other (m : Memory) {k n : Nat} (v : Byte) (h : n ≠ k) :
    Memory.read (Memory.write m k v) n = Memory.read m n := by
  induction m with
  | nil => simp only [Memory.write]; split_ifs <;> simp [Memory.read, h.symm]
  | cons cell m ih =>
    obtain ⟨j, w⟩ := cell
    simp only [Memory.write]
    split_ifs with h1 h2 h3 h4
    · rfl
    · simp [Memory.read, h.symm]
    · subst h3; simp [Memory.read, h.symm]
    · subst h3; simp [Memory.read, h.symm]
    · simp only [Memory.read, ih]

/-- A read after a write to the same address gives the value written. -/
theorem Memory.read_write_same {m : Memory} (hm : Memory.wf m = true) (k : Nat) (v : Byte) :
    Memory.read (Memory.write m k v) k = v := by
  induction m with
  | nil => simp only [Memory.write]; split_ifs with h <;> simp [Memory.read, h]
  | cons cell m ih =>
    obtain ⟨j, w⟩ := cell
    obtain ⟨-, -, hlt, hwf⟩ := Memory.wf_cons.1 hm
    simp only [Memory.write]
    split_ifs with h1 h2 h3 h4
    · rw [h2]
      apply Memory.read_below
      rintro c hc
      rcases List.mem_cons.1 hc with rfl | hc
      · exact h1
      · have := hlt c hc; omega
    · simp [Memory.read]
    · subst h3 h4; exact Memory.read_below hlt
    · simp [Memory.read]
    · simp only [Memory.read, if_neg (Ne.symm h3), ih hwf]

/-- A write lists no address but the written one and the ones listed before. -/
theorem Memory.mem_write {m : Memory} {k : Nat} {v : Byte} {cell : Host.Cell} (h : cell ∈ Memory.write m k v) :
    cell = (k, v) ∨ cell ∈ m := by
  induction m with
  | nil => simp only [Memory.write] at h; split_ifs at h <;> simp_all
  | cons c m ih =>
    obtain ⟨j, w⟩ := c
    simp only [Memory.write] at h
    split_ifs at h <;> simp only [List.mem_cons] at h ⊢
    · exact .inr h
    · exact h
    · exact .inr (.inr h)
    · rcases h with h | h
      · exact .inl h
      · exact .inr (.inr h)
    · rcases h with h | h
      · exact .inr (.inl h)
      · rcases ih h with h | h
        · exact .inl h
        · exact .inr (.inr h)

/-- A write keeps the canonical form. -/
theorem Memory.write_wf {m : Memory} (hm : Memory.wf m = true) {k : Nat} (hk : k < 65536) (v : Byte) :
    Memory.wf (Memory.write m k v) = true := by
  induction m with
  | nil => simp only [Memory.write]; split_ifs with h <;> simp [Memory.wf, hk, h]
  | cons cell m ih =>
    obtain ⟨j, w⟩ := cell
    obtain ⟨hj, hw, hlt, hwf⟩ := Memory.wf_cons.1 hm
    simp only [Memory.write]
    split_ifs with h1 h2 h3 h4
    · exact hm
    · refine Memory.wf_cons.2 ⟨hk, h2, ?_, hm⟩
      rintro c hc
      rcases List.mem_cons.1 hc with rfl | hc
      · exact h1
      · have := hlt c hc; omega
    · exact hwf
    · exact Memory.wf_cons.2 ⟨hk, h4, fun c hc => h3 ▸ hlt c hc, hwf⟩
    · refine Memory.wf_cons.2 ⟨hj, hw, fun c hc => ?_, ih hwf⟩
      rcases Memory.mem_write hc with rfl | hc
      · show j < k; omega
      · exact hlt c hc

/-- Loading an image keeps the canonical form while it fits below address 65536. -/
theorem Memory.load_wf {m : Memory} (hm : Memory.wf m = true) {k : Nat} {image : List Byte} (h : k + image.length ≤ 65536) :
    Memory.wf (Memory.load m k image) = true := by
  induction image generalizing m k with
  | nil => exact hm
  | cons v image ih =>
    simp only [List.length_cons] at h
    exact ih (Memory.write_wf hm (by omega) v) (by omega)

/-! ## The guarded accesses -/

/-- A word as an address is below 65536. -/
theorem word_lt (addr : Word) : addr.toNat < 65536 := addr.isLt

/-- Everything the guarded byte write can do (20_memory.md R42). -/
theorem State.write_cases (s : State) (addr : Word) (v : Byte) :
    (InRam s.map addr ∧ s.write addr v = { s with mem := s.mem.write addr.toNat v }) ∨
    (¬ InRam s.map addr ∧ addr.toNat < s.map.romEnd ∧ s.write addr v = s.reject addr v .readOnly) ∨
    (¬ InRam s.map addr ∧ s.map.romEnd ≤ addr.toNat ∧ s.map.ramEnd ≤ addr.toNat ∧ s.write addr v = s.reject addr v .outsideRam) := by
  unfold State.write InRam
  split_ifs with h1 h2
  · exact .inl ⟨h1, rfl⟩
  · exact .inr (.inl ⟨h1, h2, rfl⟩)
  · exact .inr (.inr ⟨h1, by omega, by omega, rfl⟩)

/-- A guarded write leaves every other address alone. -/
theorem State.write_read_other (s : State) {addr n : Word} (v : Byte) (h : n ≠ addr) : (s.write addr v).read n = s.read n := by
  rcases s.write_cases addr v with ⟨-, e⟩ | ⟨-, -, e⟩ | ⟨-, -, -, e⟩ <;> rw [e]
  · exact Memory.read_write_other _ _ fun hn => h (BitVec.eq_of_toNat_eq hn)
  · rfl
  · rfl

/-- A guarded write in RAM is read back. -/
theorem State.write_read_same {s : State} (hm : s.mem.wf = true) {addr : Word} (v : Byte) (h : InRam s.map addr) :
    (s.write addr v).read addr = v := by
  rcases s.write_cases addr v with ⟨-, e⟩ | ⟨hn, -⟩ | ⟨hn, -⟩
  · rw [e]; exact Memory.read_write_same hm _ _
  · exact absurd h hn
  · exact absurd h hn

/-- A guarded write outside RAM changes no byte. -/
theorem State.write_mem_outside (s : State) {addr : Word} (v : Byte) (h : ¬ InRam s.map addr) : (s.write addr v).mem = s.mem := by
  rcases s.write_cases addr v with ⟨hn, -⟩ | ⟨-, -, e⟩ | ⟨-, -, -, e⟩
  · exact absurd hn h
  · rw [e]; rfl
  · rw [e]; rfl

/-- A byte outside RAM is the same after any guarded write. -/
theorem State.write_read_outside (s : State) {n : Word} (addr : Word) (v : Byte) (h : ¬ InRam s.map n) :
    (s.write addr v).read n = s.read n := by
  by_cases e : n = addr
  · subst e; unfold State.read; rw [s.write_mem_outside v h]
  · exact s.write_read_other v e

/-- A guarded write keeps the canonical form. -/
theorem State.write_wf {s : State} (hm : s.mem.wf = true) (addr : Word) (v : Byte) : (s.write addr v).mem.wf = true := by
  rcases s.write_cases addr v with ⟨-, e⟩ | ⟨-, -, e⟩ | ⟨-, -, -, e⟩ <;> rw [e]
  · exact Memory.write_wf hm (word_lt addr) v
  · exact hm
  · exact hm

/-- A guarded write reports its rejection, and only that. -/
theorem State.write_events (s : State) (addr : Word) (v : Byte) :
    (s.write addr v).events = s.events ++ (rejectionOf s.map (addr, v)).toList := by
  unfold State.write rejectionOf
  split_ifs <;> simp

/-- A two-byte write keeps the canonical form. -/
theorem State.write16_wf {s : State} (hm : s.mem.wf = true) (addr v : Word) : (s.write16 addr v).mem.wf = true :=
  State.write_wf (State.write_wf hm _ _) _ _

/-- A two-byte write leaves every address but its two alone. -/
theorem State.write16_read_other (s : State) {addr n : Word} (v : Word) (h : n ≠ addr) (h' : n ≠ addr + 1) :
    (s.write16 addr v).read n = s.read n := by
  rw [State.write16, State.write_read_other _ _ h', State.write_read_other _ _ h]

/-- A byte outside RAM is the same after any two-byte write. -/
theorem State.write16_read_outside (s : State) {n : Word} (addr v : Word) (h : ¬ InRam s.map n) :
    (s.write16 addr v).read n = s.read n := by
  rw [State.write16, State.write_read_outside _ _ _ (by simpa using h), State.write_read_outside _ _ _ h]

/-- A push keeps the canonical form. -/
theorem State.push_wf {s : State} (hm : s.mem.wf = true) (v : Word) : (s.push v).mem.wf = true :=
  State.write16_wf hm _ _

/-! ## Stores, as the claims speak of them -/

/-- A guarded write touches nothing but memory and the event list. -/
theorem State.write_frame (s : State) (addr : Word) (v : Byte) :
    s.write addr v = { s with mem := (s.write addr v).mem, events := (s.write addr v).events } := by
  rcases s.write_cases addr v with ⟨-, e⟩ | ⟨-, -, e⟩ | ⟨-, -, -, e⟩ <;> rw [e] <;> rfl

/-- No store. -/
theorem StoresBytes.none {s t : State} (hm : t.mem = s.mem) (he : t.events = s.events) : StoresBytes s t [] :=
  ⟨by simp, fun _ _ => by unfold State.read; rw [hm], by simp [he]⟩

/-- A list of stores speaks of memory, the partition and the event list only. -/
theorem StoresBytes.congr {s s' t t' : State} {ws : List (Word × Byte)} (h : StoresBytes s t ws) (hm : s'.mem = s.mem)
    (hp : s'.map = s.map) (he : s'.events = s.events) (hm' : t'.mem = t.mem) (he' : t'.events = t.events) :
    StoresBytes s' t' ws := by
  unfold StoresBytes State.read at *
  rw [hm, hp, he, hm', he']
  exact h

/-- One guarded write is one store. -/
theorem State.write_stores (s : State) (addr : Word) (v : Byte) : StoresBytes s (s.write addr v) [(addr, v)] := by
  refine ⟨?_, ?_, ?_⟩
  · rintro hm w hw hr
    obtain rfl : w = (addr, v) := by simpa using hw
    exact State.write_read_same hm v hr
  · rintro n (h | h)
    · exact s.write_read_other v fun e => h (addr, v) (by simp) e.symm
    · exact s.write_read_outside addr v h
  · rw [State.write_events]
    cases h : rejectionOf s.map (addr, v) <;> simp [h]

/-- Two guarded writes at different addresses are two stores. -/
theorem State.write_write_stores (s : State) {addr addr' : Word} (v v' : Byte) (h : addr ≠ addr') :
    StoresBytes s ((s.write addr v).write addr' v') [(addr, v), (addr', v')] := by
  refine ⟨?_, ?_, ?_⟩
  · rintro hm w hw hr
    simp only [List.mem_cons, List.not_mem_nil, or_false] at hw
    rcases hw with rfl | rfl
    · rw [State.write_read_other _ _ h]
      exact State.write_read_same hm v hr
    · exact State.write_read_same (State.write_wf hm _ _) _ (by simpa using hr)
  · rintro n (h | h)
    · rw [State.write_read_other _ _ fun e => h (addr', v') (by simp) e.symm,
        State.write_read_other _ _ fun e => h (addr, v) (by simp) e.symm]
    · rw [State.write_read_outside _ _ _ (by simpa using h), State.write_read_outside _ _ _ h]
  · rw [State.write_events, State.write_events, State.write_map]
    cases h1 : rejectionOf s.map (addr, v) <;> cases h2 : rejectionOf s.map (addr', v') <;> simp [h1, h2]

/-- The two addresses of a two-byte access differ. -/
theorem word_ne_succ (addr : Word) : addr ≠ addr + 1 := by bv_omega

end Sys2Proof.Machine
end

