-- ==== Sys2Proof/Laws/Flags.lean ====
section
/-! SUPPORT. What each flag computation gives, as facts about numbers. -/

namespace Sys2Proof.Machine

/-- `v & 0x0F` is the remainder by 16. -/
theorem lowNibble_eq (v : Byte) : lowNibble v = v.toNat % 16 := by
  revert v; decide

/-- The low nibble of the complement. -/
theorem lowNibble_not (v : Byte) : lowNibble (~~~v) = 15 - v.toNat % 16 := by
  revert v; decide

/-- SetZSP leaves cy. -/
@[simp] theorem setZsp_cy (v : Byte) (f : Flags) : (setZsp v f).cy = f.cy := rfl

/-- SetZSP leaves ac. -/
@[simp] theorem setZsp_ac (v : Byte) (f : Flags) : (setZsp v f).ac = f.ac := rfl

/-- Bit 7 of a byte is set when it is at least 128. -/
theorem getLsbD_seven (v : Byte) : v.getLsbD 7 = true ↔ 128 ≤ v.toNat := by
  revert v; decide

/-- SetZSP sets z, s and p from the byte (30_encoding.md R87). -/
theorem setZsp_zspOf (v : Byte) (f : Flags) : ZspOf v (setZsp v f) := by
  refine ⟨by simp [setZsp], ?_, by simp [setZsp, parity]⟩
  exact getLsbD_seven v

/-- AddOp's result modulo 256 (30_encoding.md R88). -/
theorem addOp_value (a b : Byte) (cin : Bool) : (addOp a b cin).value.toNat = (a.toNat + b.toNat + cin.toNat) % 256 := by
  simp [addOp]

/-- AddOp's carry (30_encoding.md R88). -/
theorem addOp_cy (a b : Byte) (cin : Bool) : (addOp a b cin).flags.cy = true ↔ 256 ≤ a.toNat + b.toNat + cin.toNat := by
  simp only [addOp, setZsp_cy, decide_eq_true_eq]; omega

/-- AddOp's auxiliary carry (30_encoding.md R89). -/
theorem addOp_ac (a b : Byte) (cin : Bool) :
    (addOp a b cin).flags.ac = true ↔ 16 ≤ a.toNat % 16 + b.toNat % 16 + cin.toNat := by
  simp only [addOp, setZsp_ac, decide_eq_true_eq, lowNibble_eq]; omega

/-- The 16-bit wrapped difference of R90 as a number. -/
theorem borrow16_toNat (a b : Byte) (bin : Bool) :
    (BitVec.ofInt 16 ((a.toNat : Int) - b.toNat - bin.toNat)).toNat =
      if a.toNat < b.toNat + bin.toNat then 65536 + a.toNat - b.toNat - bin.toNat else a.toNat - b.toNat - bin.toNat := by
  have ha := a.isLt
  have hb := b.isLt
  have hc : bin.toNat ≤ 1 := by cases bin <;> decide
  rw [BitVec.toNat_ofInt]
  split_ifs <;> omega

/-- SubOp's result (30_encoding.md R90): the difference modulo 256. -/
theorem subOp_value (a b : Byte) (bin : Bool) :
    ((subOp a b bin).value.toNat : Int) = ((a.toNat : Int) - b.toNat - bin.toNat) % 256 := by
  have ha := a.isLt
  have hb := b.isLt
  have hc : bin.toNat ≤ 1 := by cases bin <;> decide
  have h : (subOp a b bin).value.toNat = (BitVec.ofInt 16 ((a.toNat : Int) - b.toNat - bin.toNat)).toNat % 256 := by
    simp [subOp, lo8]
  rw [h, borrow16_toNat]
  split_ifs <;> omega

/-- SubOp's carry is the borrow (30_encoding.md R90). -/
theorem subOp_cy (a b : Byte) (bin : Bool) : (subOp a b bin).flags.cy = true ↔ a.toNat < b.toNat + bin.toNat := by
  have ha := a.isLt
  have hb := b.isLt
  have hc : bin.toNat ≤ 1 := by cases bin <;> decide
  simp only [subOp, setZsp_cy, decide_eq_true_eq, borrow16_toNat]
  split_ifs <;> omega

/-- SubOp's auxiliary carry is set when the low nibble does not borrow (30_encoding.md R90). -/
theorem subOp_ac (a b : Byte) (bin : Bool) :
    (subOp a b bin).flags.ac = true ↔ b.toNat % 16 + bin.toNat ≤ a.toNat % 16 := by
  have hc : bin.toNat ≤ 1 := by cases bin <;> decide
  simp only [subOp, setZsp_ac, decide_eq_true_eq, lowNibble_not]
  simp only [lowNibble_eq]
  omega

/-- z, s and p of AddOp are those of its result. -/
theorem addOp_zspOf (a b : Byte) (cin : Bool) : ZspOf (addOp a b cin).value (addOp a b cin).flags := setZsp_zspOf _ _

/-- z, s and p of SubOp are those of its result. -/
theorem subOp_zspOf (a b : Byte) (bin : Bool) : ZspOf (subOp a b bin).value (subOp a b bin).flags := setZsp_zspOf _ _

/-- z, s and p of a logic operation are those of its result, cy and ac are false (30_encoding.md R91). -/
theorem logicFlags_spec (v : Byte) : (logicFlags v).cy = false ∧ (logicFlags v).ac = false ∧ ZspOf v (logicFlags v) :=
  ⟨rfl, rfl, setZsp_zspOf _ _⟩

/-- The carry of a pair addition (41_arithmetic.md R123). -/
theorem dadCarry_iff (x y : Word) : dadCarry x y = true ↔ 65536 ≤ x.toNat + y.toNat := by
  simp only [dadCarry, decide_eq_true_eq]; omega

/-- The sum of a pair addition modulo 65536 (41_arithmetic.md R123). -/
theorem dadSum_toNat (x y : Word) : (dadSum x y).toNat = (x.toNat + y.toNat) % 65536 := by
  simp [dadSum]

end Sys2Proof.Machine
end

