-- ==== Sys2Proof/Laws/Step.lean ====
section
/-! SUPPORT. What a step can do, said once: the ways a meaning can end, and a step taken apart into fetch, meaning and cost. -/

namespace Sys2Proof.Machine

/-- The meaning of an unrecognised byte is the decode failure at the opcode's own address. -/
theorem exec_unrecognised (op : Byte) (s : State) : exec (.unrecognised op) s = .fault (.decodeFailure (s.pc - 1) op) := rfl

/-- Every other instruction answers a next state. -/
theorem exec_next_or_unrecognised (i : Instr) (s : State) : (∃ t, exec i s = .next t) ∨ ∃ op, i = .unrecognised op := by
  cases i <;> first | exact .inl ⟨_, rfl⟩ | exact .inr ⟨_, rfl⟩

/-- A step that answers a next state: the meaning did, and the cost of the opcode byte was added (30_encoding.md R72). -/
theorem step_eq_next {s t : State} :
    step s = .next t ↔
      ∃ u, exec s.fetchInstr s.beginStep = .next u ∧ t = { u with cost := some (Config.cycles (s.fetchByte 0)) } := by
  unfold step
  cases exec s.fetchInstr s.beginStep <;> simp [finishStep, eq_comm]

/-- A step that faults: the meaning did. -/
theorem step_eq_fault {s : State} {r : Fault} : step s = .fault r ↔ exec s.fetchInstr s.beginStep = .fault r := by
  unfold step
  cases exec s.fetchInstr s.beginStep <;> simp [finishStep]

/-- A step that refuses: the meaning did. -/
theorem step_eq_refused {s : State} {r : Refusal} : step s = .refused r ↔ exec s.fetchInstr s.beginStep = .refused r := by
  unfold step
  cases exec s.fetchInstr s.beginStep <;> simp [finishStep]

/-- What a two-byte read gives, byte by byte (20_memory.md R45). -/
theorem State.read16_bytes (s : State) (addr : Word) : lo8 (s.read16 addr) = s.read addr ∧ hi8 (s.read16 addr) = s.read (addr + 1) := by
  simp [State.read16]

/-- Everything the interrupt action can do (60_exceptions.md R195). -/
theorem State.injectRst_cases (s : State) (n : Fin 8) :
    (s.ie = true ∧ s.injectRst n = { s with ie := false, events := [], cost := none }.restart n) ∨
    (s.ie = false ∧ s.injectRst n = { s with events := [], cost := none }) := by
  unfold State.injectRst
  cases h : s.ie <;> simp

/-! ## Conditions -/

/-- The condition that a meaning tests is the one that the claims speak of (30_encoding.md R69). -/
theorem condHolds_iff_taken (s : State) (cond : Cond) : condHolds s.f cond = true ↔ Taken s cond := by
  unfold Taken
  cases cond <;> simp [condHolds, flagOf, condFlag, condCode]

/-- A conditional jump, taken or not (44_stack_control.md R146). -/
theorem State.jumpIf_eq (s : State) (cond : Cond) (target : Word) :
    s.jumpIf cond target = if Taken s cond then s.jump target else s := by
  unfold State.jumpIf
  simp only [condHolds_iff_taken]

/-- A conditional call, taken or not (44_stack_control.md R155). -/
theorem State.callIf_eq (s : State) (cond : Cond) (target : Word) :
    s.callIf cond target = if Taken s cond then s.call target else s := by
  unfold State.callIf
  simp only [condHolds_iff_taken]

/-- A conditional return, taken or not (44_stack_control.md R164). -/
theorem State.retIf_eq (s : State) (cond : Cond) : s.retIf cond = if Taken s cond then s.popPc else s := by
  unfold State.retIf
  simp only [condHolds_iff_taken]

/-- The meaning of each conditional jump. -/
theorem exec_ofJump (s : State) (cond : Cond) (target : Word) : exec (.ofJump cond target) s = .next (s.jumpIf cond target) := by
  cases cond <;> rfl

/-- The meaning of each conditional call. -/
theorem exec_ofCall (s : State) (cond : Cond) (target : Word) : exec (.ofCall cond target) s = .next (s.callIf cond target) := by
  cases cond <;> rfl

/-- The meaning of each conditional return. -/
theorem exec_ofRet (s : State) (cond : Cond) : exec (.ofRet cond) s = .next (s.retIf cond) := by
  cases cond <;> rfl

/-- The meaning of each ALU operation on a register. -/
theorem exec_ofAlu (s : State) (op : AluOp) (src : Reg) : exec (.ofAlu op src) s = .next (s.alu op (s.reg src)) := by
  cases op <;> cases src <;> rfl

/-- The meaning of each MOV between registers. -/
theorem exec_ofMov (s : State) (dst src : Reg) : exec (.ofMov dst src) s = .next (s.movReg dst src) := by
  cases dst <;> cases src <;> rfl

end Sys2Proof.Machine
end

