-- ==== Sys2Proof/Tests/Slice0.lean ====
section
/-! SUPPORT. Tests of the model on fixed values: well-formedness, decoding, single steps with results from the spec's vectors
(95_test_vectors.md), and a witness for every statement that has hypotheses. -/

namespace Sys2Proof.Tests

open Sys2Proof
open Sys2Proof.Machine

/-! ## Helpers -/

/-- `s` with pc at `pc`, the bytes `code` there and the bytes `data` at their addresses, stored past the guard. -/
def placed (pc : Word) (code : List Byte) (data : List (Word × Byte)) (s : State) : State :=
  { s with pc := pc, mem := (data.foldl (fun m w => m.write w.1.toNat w.2) s.mem).load pc.toNat code }

/-- The next state of a result. -/
def nextOf : Result → Option State
  | .next t => some t
  | .fault _ => none
  | .refused _ => none

/-- The fault of a result. -/
def faultOf : Result → Option Fault
  | .fault r => some r
  | .next _ => none
  | .refused _ => none

/-! ## Well-formedness -/

/-- The one check: `unrecognised` must not carry a byte that the core recognises (0x00 is NOP). -/
theorem test_wellFormed_refuses_recognised_byte : (Instr.unrecognised 0x00#8).wellFormed = false := by decide

/-- All twelve bytes of 30_encoding.md R81 pass it. -/
theorem test_wellFormed_takes_the_twelve :
    (List.map (fun op => (Instr.unrecognised op).wellFormed)
      [0x08#8, 0x10#8, 0x18#8, 0x20#8, 0x28#8, 0x30#8, 0x38#8, 0xCB#8, 0xD9#8, 0xDD#8, 0xED#8, 0xFD#8]) =
    List.replicate 12 true := by decide


/-! ## Decoding: every byte of the opcode map (30_encoding.md R77 to R80), with the operand bytes 34 12 after it -/

/-- Row 0x0_ of the opcode map. -/
theorem test_decode_row_0 :
    (List.range 16).map (fun k => decodeTableWord 24 (0x123400 + k)) = [
      some .nop, some (.lxiB 0x1234#16), some .staxB, some .inxB,
      some .inrB, some .dcrB, some (.mviB 0x34#8), some .rlc,
      some (.unrecognised 0x08#8), some .dadB, some .ldaxB, some .dcxB,
      some .inrC, some .dcrC, some (.mviC 0x34#8), some .rrc] := by decide

/-- Row 0x1_ of the opcode map. -/
theorem test_decode_row_1 :
    (List.range 16).map (fun k => decodeTableWord 24 (0x123410 + k)) = [
      some (.unrecognised 0x10#8), some (.lxiD 0x1234#16), some .staxD, some .inxD,
      some .inrD, some .dcrD, some (.mviD 0x34#8), some .ral,
      some (.unrecognised 0x18#8), some .dadD, some .ldaxD, some .dcxD,
      some .inrE, some .dcrE, some (.mviE 0x34#8), some .rar] := by decide

/-- Row 0x2_ of the opcode map. -/
theorem test_decode_row_2 :
    (List.range 16).map (fun k => decodeTableWord 24 (0x123420 + k)) = [
      some (.unrecognised 0x20#8), some (.lxiH 0x1234#16), some (.shld 0x1234#16), some .inxH,
      some .inrH, some .dcrH, some (.mviH 0x34#8), some .daa,
      some (.unrecognised 0x28#8), some .dadH, some (.lhld 0x1234#16), some .dcxH,
      some .inrL, some .dcrL, some (.mviL 0x34#8), some .cma] := by decide

/-- Row 0x3_ of the opcode map. -/
theorem test_decode_row_3 :
    (List.range 16).map (fun k => decodeTableWord 24 (0x123430 + k)) = [
      some (.unrecognised 0x30#8), some (.lxiSp 0x1234#16), some (.sta 0x1234#16), some .inxSp,
      some .inrM, some .dcrM, some (.mviM 0x34#8), some .stc,
      some (.unrecognised 0x38#8), some .dadSp, some (.lda 0x1234#16), some .dcxSp,
      some .inrA, some .dcrA, some (.mviA 0x34#8), some .cmc] := by decide

/-- Row 0x4_ of the opcode map. -/
theorem test_decode_row_4 :
    (List.range 16).map (fun k => decodeTableWord 24 (0x123440 + k)) = [
      some .movBB, some .movBC, some .movBD, some .movBE,
      some .movBH, some .movBL, some .movBM, some .movBA,
      some .movCB, some .movCC, some .movCD, some .movCE,
      some .movCH, some .movCL, some .movCM, some .movCA] := by decide

/-- Row 0x5_ of the opcode map. -/
theorem test_decode_row_5 :
    (List.range 16).map (fun k => decodeTableWord 24 (0x123450 + k)) = [
      some .movDB, some .movDC, some .movDD, some .movDE,
      some .movDH, some .movDL, some .movDM, some .movDA,
      some .movEB, some .movEC, some .movED, some .movEE,
      some .movEH, some .movEL, some .movEM, some .movEA] := by decide

/-- Row 0x6_ of the opcode map. -/
theorem test_decode_row_6 :
    (List.range 16).map (fun k => decodeTableWord 24 (0x123460 + k)) = [
      some .movHB, some .movHC, some .movHD, some .movHE,
      some .movHH, some .movHL, some .movHM, some .movHA,
      some .movLB, some .movLC, some .movLD, some .movLE,
      some .movLH, some .movLL, some .movLM, some .movLA] := by decide

/-- Row 0x7_ of the opcode map. -/
theorem test_decode_row_7 :
    (List.range 16).map (fun k => decodeTableWord 24 (0x123470 + k)) = [
      some .movMB, some .movMC, some .movMD, some .movME,
      some .movMH, some .movML, some .hlt, some .movMA,
      some .movAB, some .movAC, some .movAD, some .movAE,
      some .movAH, some .movAL, some .movAM, some .movAA] := by decide

/-- Row 0x8_ of the opcode map. -/
theorem test_decode_row_8 :
    (List.range 16).map (fun k => decodeTableWord 24 (0x123480 + k)) = [
      some .addB, some .addC, some .addD, some .addE,
      some .addH, some .addL, some .addM, some .addA,
      some .adcB, some .adcC, some .adcD, some .adcE,
      some .adcH, some .adcL, some .adcM, some .adcA] := by decide

/-- Row 0x9_ of the opcode map. -/
theorem test_decode_row_9 :
    (List.range 16).map (fun k => decodeTableWord 24 (0x123490 + k)) = [
      some .subB, some .subC, some .subD, some .subE,
      some .subH, some .subL, some .subM, some .subA,
      some .sbbB, some .sbbC, some .sbbD, some .sbbE,
      some .sbbH, some .sbbL, some .sbbM, some .sbbA] := by decide

/-- Row 0xA_ of the opcode map. -/
theorem test_decode_row_A :
    (List.range 16).map (fun k => decodeTableWord 24 (0x1234A0 + k)) = [
      some .anaB, some .anaC, some .anaD, some .anaE,
      some .anaH, some .anaL, some .anaM, some .anaA,
      some .xraB, some .xraC, some .xraD, some .xraE,
      some .xraH, some .xraL, some .xraM, some .xraA] := by decide

/-- Row 0xB_ of the opcode map. -/
theorem test_decode_row_B :
    (List.range 16).map (fun k => decodeTableWord 24 (0x1234B0 + k)) = [
      some .oraB, some .oraC, some .oraD, some .oraE,
      some .oraH, some .oraL, some .oraM, some .oraA,
      some .cmpB, some .cmpC, some .cmpD, some .cmpE,
      some .cmpH, some .cmpL, some .cmpM, some .cmpA] := by decide

/-- Row 0xC_ of the opcode map. -/
theorem test_decode_row_C :
    (List.range 16).map (fun k => decodeTableWord 24 (0x1234C0 + k)) = [
      some .rnz, some .popB, some (.jnz 0x1234#16), some (.jmp 0x1234#16),
      some (.cnz 0x1234#16), some .pushB, some (.adi 0x34#8), some .rst0,
      some .rz, some .ret, some (.jz 0x1234#16), some (.unrecognised 0xCB#8),
      some (.cz 0x1234#16), some (.call 0x1234#16), some (.aci 0x34#8), some .rst1] := by decide

/-- Row 0xD_ of the opcode map. -/
theorem test_decode_row_D :
    (List.range 16).map (fun k => decodeTableWord 24 (0x1234D0 + k)) = [
      some .rnc, some .popD, some (.jnc 0x1234#16), some (.outPort 0x34#8),
      some (.cnc 0x1234#16), some .pushD, some (.sui 0x34#8), some .rst2,
      some .rc, some (.unrecognised 0xD9#8), some (.jc 0x1234#16), some (.inPort 0x34#8),
      some (.cc 0x1234#16), some (.unrecognised 0xDD#8), some (.sbi 0x34#8), some .rst3] := by decide

/-- Row 0xE_ of the opcode map. -/
theorem test_decode_row_E :
    (List.range 16).map (fun k => decodeTableWord 24 (0x1234E0 + k)) = [
      some .rpo, some .popH, some (.jpo 0x1234#16), some .xthl,
      some (.cpo 0x1234#16), some .pushH, some (.ani 0x34#8), some .rst4,
      some .rpe, some .pchl, some (.jpe 0x1234#16), some .xchg,
      some (.cpe 0x1234#16), some (.unrecognised 0xED#8), some (.xri 0x34#8), some .rst5] := by decide

/-- Row 0xF_ of the opcode map. -/
theorem test_decode_row_F :
    (List.range 16).map (fun k => decodeTableWord 24 (0x1234F0 + k)) = [
      some .rp, some .popPsw, some (.jp 0x1234#16), some .di,
      some (.cp 0x1234#16), some .pushPsw, some (.ori 0x34#8), some .rst6,
      some .rm, some .sphl, some (.jm 0x1234#16), some .ei,
      some (.cm 0x1234#16), some (.unrecognised 0xFD#8), some (.cpi 0x34#8), some .rst7] := by decide


/-! ## One step: rows of the spec's vectors (95_test_vectors.md, V numbers in the names), the fields that they change -/

theorem test_V1_mov_c_b :
    (nextOf (step (placed 0x0100#16 [0x48#8] []
      { State.reset with b := 0x12#8 }))).map (fun t => t.c) =
      some 0x12#8 := by decide

theorem test_V4_mov_b_m :
    (nextOf (step (placed 0x0100#16 [0x46#8] [(0x0005#16, 0xC3#8)]
      { State.reset with l := 0x05#8 }))).map (fun t => t.b) =
      some 0xC3#8 := by decide

theorem test_V8_mov_m_h :
    (nextOf (step (placed 0x0100#16 [0x74#8] []
      { State.reset with h := 0x21#8, l := 0x22#8 }))).map (fun t => t.read 0x2122#16) =
      some 0x21#8 := by decide

theorem test_V10_mvi_l :
    (nextOf (step (placed 0x0100#16 [0x2E#8, 0xFF#8] []
      State.reset))).map (fun t => t.l) =
      some 0xFF#8 := by decide

theorem test_V12_mvi_m :
    (nextOf (step (placed 0x0100#16 [0x36#8, 0x99#8] []
      State.reset))).map (fun t => t.events) =
      some [⟨0x0000#16, 0x99#8, .readOnly⟩] := by decide

theorem test_V13_lxi_h :
    (nextOf (step (placed 0x0100#16 [0x21#8, 0x34#8, 0x12#8] []
      State.reset))).map (fun t => (t.h, t.l)) =
      some (0x12#8, 0x34#8) := by decide

theorem test_V14_lxi_sp :
    (nextOf (step (placed 0x0100#16 [0x31#8, 0x00#8, 0x24#8] []
      { State.reset with sp := 0x0000#16 }))).map (fun t => t.sp) =
      some 0x2400#16 := by decide

theorem test_V15_lda :
    (nextOf (step (placed 0x0100#16 [0x3A#8, 0x10#8, 0x20#8] [(0x2010#16, 0x42#8)]
      State.reset))).map (fun t => t.a) =
      some 0x42#8 := by decide

theorem test_V17_sta :
    (nextOf (step (placed 0x0100#16 [0x32#8, 0xFF#8, 0x3F#8] []
      { State.reset with a := 0x11#8 }))).map (fun t => t.read 0x3FFF#16) =
      some 0x11#8 := by decide

theorem test_V20_lhld :
    (nextOf (step (placed 0x0100#16 [0x2A#8, 0xFF#8, 0xFF#8] [(0xFFFF#16, 0x34#8), (0x0000#16, 0x12#8)]
      State.reset))).map (fun t => (t.h, t.l)) =
      some (0x12#8, 0x34#8) := by decide

theorem test_V22_shld :
    (nextOf (step (placed 0x0100#16 [0x22#8, 0xFF#8, 0x1F#8] []
      { State.reset with h := 0xAB#8, l := 0xCD#8 }))).map (fun t => (t.read 0x2000#16, t.events)) =
      some (0xAB#8, [⟨0x1FFF#16, 0xCD#8, .readOnly⟩]) := by decide

theorem test_V25_ldax_b :
    (nextOf (step (placed 0x0100#16 [0x0A#8] [(0x2100#16, 0x3C#8)]
      { State.reset with b := 0x21#8 }))).map (fun t => t.a) =
      some 0x3C#8 := by decide

theorem test_V27_stax_d :
    (nextOf (step (placed 0x0100#16 [0x12#8] []
      { State.reset with a := 0x01#8, d := 0x01#8 }))).map (fun t => t.events) =
      some [⟨0x0100#16, 0x01#8, .readOnly⟩] := by decide

theorem test_V30_add_b :
    (nextOf (step (placed 0x0100#16 [0x80#8] []
      { State.reset with a := 0x3A#8, b := 0xC6#8 }))).map (fun t => (t.a, t.f)) =
      some (0x00#8, ⟨true, true, true, true, false⟩) := by decide

theorem test_V31_add_a :
    (nextOf (step (placed 0x0100#16 [0x87#8] []
      { State.reset with a := 0x80#8 }))).map (fun t => (t.a, t.f)) =
      some (0x00#8, ⟨true, false, true, true, false⟩) := by decide

theorem test_V33_add_m :
    (nextOf (step (placed 0x0100#16 [0x86#8] [(0x2000#16, 0x7F#8)]
      { State.reset with a := 0x01#8, h := 0x20#8 }))).map (fun t => (t.a, t.f)) =
      some (0x80#8, ⟨false, true, false, false, true⟩) := by decide

theorem test_V35_adi :
    (nextOf (step (placed 0x0100#16 [0xC6#8, 0x01#8] []
      { State.reset with a := 0xFF#8 }))).map (fun t => (t.a, t.f)) =
      some (0x00#8, ⟨true, true, true, true, false⟩) := by decide

theorem test_V37_adc_b :
    (nextOf (step (placed 0x0100#16 [0x88#8] []
      { State.reset with a := 0xFF#8, b := 0xFF#8, f := ⟨true, false, false, false, false⟩ }))).map (fun t => (t.a, t.f)) =
      some (0xFF#8, ⟨true, true, true, false, true⟩) := by decide

theorem test_V38_adc_m :
    (nextOf (step (placed 0x0100#16 [0x8E#8] [(0x2000#16, 0x00#8)]
      { State.reset with a := 0xFF#8, h := 0x20#8, f := ⟨true, false, false, false, false⟩ }))).map (fun t => (t.a, t.f)) =
      some (0x00#8, ⟨true, true, true, true, false⟩) := by decide

theorem test_V39_aci :
    (nextOf (step (placed 0x0100#16 [0xCE#8, 0xBE#8] []
      { State.reset with a := 0x56#8 }))).map (fun t => (t.a, t.f)) =
      some (0x14#8, ⟨true, true, true, false, false⟩) := by decide

theorem test_V42_sub_d :
    (nextOf (step (placed 0x0100#16 [0x92#8] []
      { State.reset with a := 0x10#8, d := 0x01#8 }))).map (fun t => (t.a, t.f)) =
      some (0x0F#8, ⟨false, false, true, false, false⟩) := by decide

theorem test_V43_sub_m :
    (nextOf (step (placed 0x0100#16 [0x96#8] [(0x2000#16, 0x01#8)]
      { State.reset with h := 0x20#8 }))).map (fun t => (t.a, t.f)) =
      some (0xFF#8, ⟨true, false, true, false, true⟩) := by decide

theorem test_V45_sui :
    (nextOf (step (placed 0x0100#16 [0xD6#8, 0x01#8] []
      { State.reset with a := 0x80#8 }))).map (fun t => (t.a, t.f)) =
      some (0x7F#8, ⟨false, false, false, false, false⟩) := by decide

theorem test_V47_sbb_a :
    (nextOf (step (placed 0x0100#16 [0x9F#8] []
      { State.reset with a := 0x33#8, f := ⟨true, false, false, false, false⟩ }))).map (fun t => (t.a, t.f)) =
      some (0xFF#8, ⟨true, false, true, false, true⟩) := by decide

theorem test_V48_sbb_m :
    (nextOf (step (placed 0x0100#16 [0x9E#8] [(0x2000#16, 0xFF#8)]
      { State.reset with h := 0x20#8, f := ⟨true, false, false, false, false⟩ }))).map (fun t => (t.a, t.f)) =
      some (0x00#8, ⟨true, false, true, true, false⟩) := by decide

theorem test_V49_sbi :
    (nextOf (step (placed 0x0100#16 [0xDE#8, 0x00#8] []
      { State.reset with f := ⟨true, false, false, false, false⟩ }))).map (fun t => (t.a, t.f)) =
      some (0xFF#8, ⟨true, false, true, false, true⟩) := by decide

theorem test_V50_inr_a :
    (nextOf (step (placed 0x0100#16 [0x3C#8] []
      { State.reset with a := 0xFF#8, f := ⟨true, false, false, false, false⟩ }))).map (fun t => (t.a, t.f)) =
      some (0x00#8, ⟨true, true, true, true, false⟩) := by decide

theorem test_V53_inr_m :
    (nextOf (step (placed 0x0100#16 [0x34#8] [(0x0010#16, 0x0F#8)]
      { State.reset with l := 0x10#8 }))).map (fun t => (t.f, t.events)) =
      some (⟨false, true, false, false, false⟩, [⟨0x0010#16, 0x10#8, .readOnly⟩]) := by decide

theorem test_V55_dcr_c :
    (nextOf (step (placed 0x0100#16 [0x0D#8] []
      { State.reset with f := ⟨true, false, false, false, false⟩ }))).map (fun t => (t.c, t.f)) =
      some (0xFF#8, ⟨true, false, true, false, true⟩) := by decide

theorem test_V56_dcr_m :
    (nextOf (step (placed 0x0100#16 [0x35#8] [(0x2000#16, 0x10#8)]
      { State.reset with h := 0x20#8 }))).map (fun t => (t.f, t.read 0x2000#16)) =
      some (⟨false, false, true, false, false⟩, 0x0F#8) := by decide

theorem test_V57_inx_d :
    (nextOf (step (placed 0x0100#16 [0x13#8] []
      { State.reset with d := 0x38#8, e := 0xFF#8 }))).map (fun t => (t.d, t.e)) =
      some (0x39#8, 0x00#8) := by decide

theorem test_V58_inx_sp :
    (nextOf (step (placed 0x0100#16 [0x33#8] []
      { State.reset with sp := 0xFFFF#16 }))).map (fun t => t.sp) =
      some 0x0000#16 := by decide

theorem test_V60_dcx_b :
    (nextOf (step (placed 0x0100#16 [0x0B#8] []
      State.reset))).map (fun t => (t.b, t.c)) =
      some (0xFF#8, 0xFF#8) := by decide

theorem test_V61_dad_b :
    (nextOf (step (placed 0x0100#16 [0x09#8] []
      { State.reset with c := 0x01#8, h := 0xFF#8, l := 0xFF#8 }))).map (fun t => (t.h, t.l, t.f)) =
      some (0x00#8, 0x00#8, ⟨true, false, false, false, false⟩) := by decide

theorem test_V62_dad_h :
    (nextOf (step (placed 0x0100#16 [0x29#8] []
      { State.reset with h := 0x80#8 }))).map (fun t => (t.h, t.f)) =
      some (0x00#8, ⟨true, false, false, false, false⟩) := by decide

theorem test_V64_daa :
    (nextOf (step (placed 0x0100#16 [0x27#8] []
      { State.reset with a := 0x9B#8 }))).map (fun t => (t.a, t.f)) =
      some (0x01#8, ⟨true, true, false, false, false⟩) := by decide

theorem test_V65_daa :
    (nextOf (step (placed 0x0100#16 [0x27#8] []
      { State.reset with a := 0x9A#8 }))).map (fun t => (t.a, t.f)) =
      some (0x00#8, ⟨true, true, true, true, false⟩) := by decide

theorem test_V70_ana_c :
    (nextOf (step (placed 0x0100#16 [0xA1#8] []
      { State.reset with a := 0xFC#8, c := 0x0F#8, f := ⟨true, true, false, false, false⟩ }))).map (fun t => (t.a, t.f)) =
      some (0x0C#8, ⟨false, false, true, false, false⟩) := by decide

theorem test_V71_ana_m :
    (nextOf (step (placed 0x0100#16 [0xA6#8] [(0x2000#16, 0x0F#8)]
      { State.reset with a := 0xF0#8, h := 0x20#8 }))).map (fun t => (t.a, t.f)) =
      some (0x00#8, ⟨false, false, true, true, false⟩) := by decide

theorem test_V72_ani :
    (nextOf (step (placed 0x0100#16 [0xE6#8, 0x0F#8] []
      { State.reset with a := 0x3A#8 }))).map (fun t => (t.a, t.f)) =
      some (0x0A#8, ⟨false, false, true, false, false⟩) := by decide

theorem test_V73_xra_b :
    (nextOf (step (placed 0x0100#16 [0xA8#8] []
      { State.reset with a := 0xFF#8, b := 0x80#8 }))).map (fun t => (t.a, t.f)) =
      some (0x7F#8, ⟨false, false, false, false, false⟩) := by decide

theorem test_V75_xra_m :
    (nextOf (step (placed 0x0100#16 [0xAE#8] [(0x2000#16, 0x78#8)]
      { State.reset with a := 0x5C#8, h := 0x20#8 }))).map (fun t => (t.a, t.f)) =
      some (0x24#8, ⟨false, false, true, false, false⟩) := by decide

theorem test_V76_xri :
    (nextOf (step (placed 0x0100#16 [0xEE#8, 0x81#8] []
      { State.reset with a := 0x3B#8 }))).map (fun t => (t.a, t.f)) =
      some (0xBA#8, ⟨false, false, false, false, true⟩) := by decide

theorem test_V77_ora_c :
    (nextOf (step (placed 0x0100#16 [0xB1#8] []
      { State.reset with a := 0x33#8, c := 0x0F#8 }))).map (fun t => (t.a, t.f)) =
      some (0x3F#8, ⟨false, false, true, false, false⟩) := by decide

theorem test_V78_ora_m :
    (nextOf (step (placed 0x0100#16 [0xB6#8] [(0x2000#16, 0x00#8)]
      { State.reset with h := 0x20#8 }))).map (fun t => (t.a, t.f)) =
      some (0x00#8, ⟨false, false, true, true, false⟩) := by decide

theorem test_V79_ori :
    (nextOf (step (placed 0x0100#16 [0xF6#8, 0x0F#8] []
      { State.reset with a := 0xB5#8 }))).map (fun t => (t.a, t.f)) =
      some (0xBF#8, ⟨false, false, false, false, true⟩) := by decide

theorem test_V81_cmp_e :
    (nextOf (step (placed 0x0100#16 [0xBB#8] []
      { State.reset with a := 0x02#8, e := 0x05#8 }))).map (fun t => (t.a, t.f)) =
      some (0x02#8, ⟨true, false, false, false, true⟩) := by decide

theorem test_V83_cmp_m :
    (nextOf (step (placed 0x0100#16 [0xBE#8] [(0x2000#16, 0x80#8)]
      { State.reset with a := 0x80#8, h := 0x20#8 }))).map (fun t => (t.a, t.f)) =
      some (0x80#8, ⟨false, true, true, true, false⟩) := by decide

theorem test_V85_cpi :
    (nextOf (step (placed 0x0100#16 [0xFE#8, 0x01#8] []
      State.reset))).map (fun t => (t.a, t.f)) =
      some (0x00#8, ⟨true, false, true, false, true⟩) := by decide

theorem test_V86_cma :
    (nextOf (step (placed 0x0100#16 [0x2F#8] []
      { State.reset with a := 0x51#8 }))).map (fun t => (t.a, t.f)) =
      some (0xAE#8, ⟨false, false, false, false, false⟩) := by decide

theorem test_V87_stc :
    (nextOf (step (placed 0x0100#16 [0x37#8] []
      State.reset))).map (fun t => (t.a, t.f)) =
      some (0x00#8, ⟨true, false, false, false, false⟩) := by decide

theorem test_V88_cmc :
    (nextOf (step (placed 0x0100#16 [0x3F#8] []
      { State.reset with f := ⟨true, false, false, false, false⟩ }))).map (fun t => (t.a, t.f)) =
      some (0x00#8, ⟨false, false, false, false, false⟩) := by decide

theorem test_V90_rlc :
    (nextOf (step (placed 0x0100#16 [0x07#8] []
      { State.reset with a := 0xF2#8 }))).map (fun t => (t.a, t.f)) =
      some (0xE5#8, ⟨true, false, false, false, false⟩) := by decide

theorem test_V92_rrc :
    (nextOf (step (placed 0x0100#16 [0x0F#8] []
      { State.reset with a := 0xF2#8 }))).map (fun t => (t.a, t.f)) =
      some (0x79#8, ⟨false, false, false, false, false⟩) := by decide

theorem test_V95_ral :
    (nextOf (step (placed 0x0100#16 [0x17#8] []
      { State.reset with a := 0x80#8, f := ⟨true, false, false, false, false⟩ }))).map (fun t => (t.a, t.f)) =
      some (0x01#8, ⟨true, false, false, false, false⟩) := by decide

theorem test_V96_rar :
    (nextOf (step (placed 0x0100#16 [0x1F#8] []
      { State.reset with a := 0x6A#8, f := ⟨true, false, false, false, false⟩ }))).map (fun t => (t.a, t.f)) =
      some (0xB5#8, ⟨false, false, false, false, false⟩) := by decide

theorem test_V100_jmp :
    (nextOf (step (placed 0x0000#16 [0xC3#8, 0x00#8, 0x01#8] []
      State.reset))).map (fun t => t.pc) =
      some 0x0100#16 := by decide

theorem test_V101_jnz :
    (nextOf (step (placed 0x0000#16 [0xC2#8, 0x00#8, 0x03#8] []
      State.reset))).map (fun t => t.pc) =
      some 0x0300#16 := by decide

theorem test_V102_jnz :
    (nextOf (step (placed 0x0000#16 [0xC2#8, 0x00#8, 0x03#8] []
      { State.reset with f := ⟨false, false, false, true, false⟩ }))).map (fun t => t.pc) =
      some 0x0003#16 := by decide

theorem test_V103_jz :
    (nextOf (step (placed 0x0100#16 [0xCA#8, 0x34#8, 0x12#8] []
      { State.reset with f := ⟨false, false, false, true, false⟩ }))).map (fun t => t.pc) =
      some 0x1234#16 := by decide

theorem test_V104_jnc :
    (nextOf (step (placed 0x0100#16 [0xD2#8, 0x34#8, 0x12#8] []
      { State.reset with f := ⟨true, false, false, false, false⟩ }))).map (fun t => t.pc) =
      some 0x0103#16 := by decide

theorem test_V105_jc :
    (nextOf (step (placed 0x0100#16 [0xDA#8, 0x34#8, 0x12#8] []
      { State.reset with f := ⟨true, false, false, false, false⟩ }))).map (fun t => t.pc) =
      some 0x1234#16 := by decide

theorem test_V106_jpo :
    (nextOf (step (placed 0x0100#16 [0xE2#8, 0x34#8, 0x12#8] []
      State.reset))).map (fun t => t.pc) =
      some 0x1234#16 := by decide

theorem test_V107_jpe :
    (nextOf (step (placed 0x0100#16 [0xEA#8, 0x34#8, 0x12#8] []
      State.reset))).map (fun t => t.pc) =
      some 0x0103#16 := by decide

theorem test_V108_jp :
    (nextOf (step (placed 0x0100#16 [0xF2#8, 0x34#8, 0x12#8] []
      { State.reset with f := ⟨false, false, false, false, true⟩ }))).map (fun t => t.pc) =
      some 0x0103#16 := by decide

theorem test_V109_jm :
    (nextOf (step (placed 0x0100#16 [0xFA#8, 0x34#8, 0x12#8] []
      { State.reset with f := ⟨false, false, false, false, true⟩ }))).map (fun t => t.pc) =
      some 0x1234#16 := by decide

theorem test_V111_call :
    (nextOf (step (placed 0x0000#16 [0xCD#8, 0x10#8, 0x00#8] []
      { State.reset with sp := 0x2001#16 }))).map (fun t => (t.sp, t.pc, t.read 0x2000#16, t.events)) =
      some (0x1FFF#16, 0x0010#16, 0x00#8, [⟨0x1FFF#16, 0x03#8, .readOnly⟩]) := by decide

theorem test_V112_call :
    (nextOf (step (placed 0x0000#16 [0xCD#8, 0x10#8, 0x00#8] []
      { State.reset with sp := 0x0000#16 }))).map (fun t => (t.sp, t.pc, t.events)) =
      some (0xFFFE#16, 0x0010#16, [⟨0xFFFE#16, 0x03#8, .outsideRam⟩, ⟨0xFFFF#16, 0x00#8, .outsideRam⟩]) := by decide

theorem test_V114_cnz :
    (nextOf (step (placed 0x0100#16 [0xC4#8, 0x00#8, 0x30#8] []
      State.reset))).map (fun t => (t.sp, t.pc, t.read 0x23FE#16, t.read 0x23FF#16)) =
      some (0x23FE#16, 0x3000#16, 0x03#8, 0x01#8) := by decide

theorem test_V115_cnz :
    (nextOf (step (placed 0x0100#16 [0xC4#8, 0x00#8, 0x30#8] []
      { State.reset with f := ⟨false, false, false, true, false⟩ }))).map (fun t => t.pc) =
      some 0x0103#16 := by decide

theorem test_V116_cz :
    (nextOf (step (placed 0x0100#16 [0xCC#8, 0x00#8, 0x30#8] []
      State.reset))).map (fun t => t.pc) =
      some 0x0103#16 := by decide

theorem test_V117_cnc :
    (nextOf (step (placed 0x0100#16 [0xD4#8, 0x00#8, 0x30#8] []
      State.reset))).map (fun t => (t.sp, t.pc, t.read 0x23FE#16, t.read 0x23FF#16)) =
      some (0x23FE#16, 0x3000#16, 0x03#8, 0x01#8) := by decide

theorem test_V118_cc :
    (nextOf (step (placed 0x0100#16 [0xDC#8, 0x00#8, 0x30#8] []
      { State.reset with f := ⟨true, false, false, false, false⟩ }))).map (fun t => (t.sp, t.pc, t.read 0x23FE#16, t.read 0x23FF#16)) =
      some (0x23FE#16, 0x3000#16, 0x03#8, 0x01#8) := by decide

theorem test_V119_cpo :
    (nextOf (step (placed 0x0100#16 [0xE4#8, 0x00#8, 0x30#8] []
      State.reset))).map (fun t => (t.sp, t.pc, t.read 0x23FE#16, t.read 0x23FF#16)) =
      some (0x23FE#16, 0x3000#16, 0x03#8, 0x01#8) := by decide

theorem test_V120_cpe :
    (nextOf (step (placed 0x0100#16 [0xEC#8, 0x00#8, 0x30#8] []
      { State.reset with f := ⟨false, false, true, false, false⟩ }))).map (fun t => (t.sp, t.pc, t.read 0x23FE#16, t.read 0x23FF#16)) =
      some (0x23FE#16, 0x3000#16, 0x03#8, 0x01#8) := by decide

theorem test_V121_cp :
    (nextOf (step (placed 0x0100#16 [0xF4#8, 0x00#8, 0x30#8] []
      State.reset))).map (fun t => (t.sp, t.pc, t.read 0x23FE#16, t.read 0x23FF#16)) =
      some (0x23FE#16, 0x3000#16, 0x03#8, 0x01#8) := by decide

theorem test_V122_cm :
    (nextOf (step (placed 0x0100#16 [0xFC#8, 0x00#8, 0x30#8] []
      { State.reset with f := ⟨false, false, false, false, true⟩ }))).map (fun t => (t.sp, t.pc, t.read 0x23FE#16, t.read 0x23FF#16)) =
      some (0x23FE#16, 0x3000#16, 0x03#8, 0x01#8) := by decide

theorem test_V124_ret :
    (nextOf (step (placed 0x0100#16 [0xC9#8] [(0xFFFF#16, 0x00#8), (0x0000#16, 0x30#8)]
      { State.reset with sp := 0xFFFF#16 }))).map (fun t => (t.sp, t.pc)) =
      some (0x0001#16, 0x3000#16) := by decide

theorem test_V125_rnz :
    (nextOf (step (placed 0x0200#16 [0xC0#8] []
      { State.reset with f := ⟨false, false, false, true, false⟩ }))).map (fun t => t.pc) =
      some 0x0201#16 := by decide

theorem test_V126_rz :
    (nextOf (step (placed 0x0010#16 [0xC8#8] [(0x23FE#16, 0x03#8), (0x23FF#16, 0x00#8)]
      { State.reset with f := ⟨false, false, false, true, false⟩, sp := 0x23FE#16 }))).map (fun t => (t.sp, t.pc)) =
      some (0x2400#16, 0x0003#16) := by decide

theorem test_V127_rnc :
    (nextOf (step (placed 0x0010#16 [0xD0#8] [(0x23FE#16, 0x03#8), (0x23FF#16, 0x00#8)]
      { State.reset with sp := 0x23FE#16 }))).map (fun t => (t.sp, t.pc)) =
      some (0x2400#16, 0x0003#16) := by decide

theorem test_V128_rc :
    (nextOf (step (placed 0x0010#16 [0xD8#8] [(0x23FE#16, 0x03#8), (0x23FF#16, 0x00#8)]
      { State.reset with sp := 0x23FE#16 }))).map (fun t => t.pc) =
      some 0x0011#16 := by decide

theorem test_V129_rpo :
    (nextOf (step (placed 0x0010#16 [0xE0#8] [(0x23FE#16, 0x03#8), (0x23FF#16, 0x00#8)]
      { State.reset with sp := 0x23FE#16 }))).map (fun t => (t.sp, t.pc)) =
      some (0x2400#16, 0x0003#16) := by decide

theorem test_V130_rpe :
    (nextOf (step (placed 0x0010#16 [0xE8#8] [(0x23FE#16, 0x03#8), (0x23FF#16, 0x00#8)]
      { State.reset with sp := 0x23FE#16 }))).map (fun t => t.pc) =
      some 0x0011#16 := by decide

theorem test_V131_rp :
    (nextOf (step (placed 0x0010#16 [0xF0#8] [(0x23FE#16, 0x03#8), (0x23FF#16, 0x00#8)]
      { State.reset with f := ⟨false, false, false, false, true⟩, sp := 0x23FE#16 }))).map (fun t => t.pc) =
      some 0x0011#16 := by decide

theorem test_V132_rm :
    (nextOf (step (placed 0x0010#16 [0xF8#8] [(0x23FE#16, 0x03#8), (0x23FF#16, 0x00#8)]
      { State.reset with f := ⟨false, false, false, false, true⟩, sp := 0x23FE#16 }))).map (fun t => (t.sp, t.pc)) =
      some (0x2400#16, 0x0003#16) := by decide

theorem test_V133_rst_1 :
    (nextOf (step (placed 0x1234#16 [0xCF#8] []
      State.reset))).map (fun t => (t.sp, t.pc, t.read 0x23FE#16, t.read 0x23FF#16)) =
      some (0x23FE#16, 0x0008#16, 0x35#8, 0x12#8) := by decide

theorem test_V134_rst_7 :
    (nextOf (step (placed 0x2000#16 [0xFF#8] []
      State.reset))).map (fun t => (t.sp, t.pc, t.read 0x23FE#16, t.read 0x23FF#16)) =
      some (0x23FE#16, 0x0038#16, 0x01#8, 0x20#8) := by decide

theorem test_V136_pchl :
    (nextOf (step (placed 0x0100#16 [0xE9#8] []
      { State.reset with h := 0x41#8, l := 0x3E#8 }))).map (fun t => t.pc) =
      some 0x413E#16 := by decide

theorem test_V137_push_d :
    (nextOf (step (placed 0x0100#16 [0xD5#8] []
      { State.reset with d := 0x8F#8, e := 0x9D#8, sp := 0x3A2C#16 }))).map (fun t => (t.sp, t.read 0x3A2A#16, t.read 0x3A2B#16)) =
      some (0x3A2A#16, 0x9D#8, 0x8F#8) := by decide

theorem test_V139_push_h :
    (nextOf (step (placed 0x0100#16 [0xE5#8] []
      { State.reset with h := 0x12#8, l := 0x34#8, sp := 0x0001#16 }))).map (fun t => (t.sp, t.events)) =
      some (0xFFFF#16, [⟨0xFFFF#16, 0x34#8, .outsideRam⟩, ⟨0x0000#16, 0x12#8, .readOnly⟩]) := by decide

theorem test_V140_push_psw :
    (nextOf (step (placed 0x0100#16 [0xF5#8] []
      { State.reset with a := 0x1F#8, f := ⟨true, false, true, true, false⟩ }))).map (fun t => (t.sp, t.read 0x23FE#16, t.read 0x23FF#16)) =
      some (0x23FE#16, 0x47#8, 0x1F#8) := by decide

theorem test_V143_pop_h :
    (nextOf (step (placed 0x0100#16 [0xE1#8] [(0x1239#16, 0x3D#8), (0x123A#16, 0x93#8)]
      { State.reset with sp := 0x1239#16 }))).map (fun t => (t.h, t.l, t.sp)) =
      some (0x93#8, 0x3D#8, 0x123B#16) := by decide

theorem test_V145_pop_psw :
    (nextOf (step (placed 0x0100#16 [0xF1#8] [(0x2C00#16, 0xC3#8), (0x2C01#16, 0xFF#8)]
      { State.reset with sp := 0x2C00#16 }))).map (fun t => (t.a, t.f, t.sp)) =
      some (0xFF#8, ⟨true, false, false, true, true⟩, 0x2C02#16) := by decide

theorem test_V146_pop_psw :
    (nextOf (step (placed 0x0100#16 [0xF1#8] [(0x23FE#16, 0x28#8), (0x23FF#16, 0x00#8)]
      { State.reset with f := ⟨true, false, false, true, false⟩, sp := 0x23FE#16 }))).map (fun t => (t.f, t.sp)) =
      some (⟨false, false, false, false, false⟩, 0x2400#16) := by decide

theorem test_V147_xthl :
    (nextOf (step (placed 0x0100#16 [0xE3#8] [(0x23FE#16, 0xF0#8), (0x23FF#16, 0x0D#8)]
      { State.reset with h := 0x0B#8, l := 0x3C#8, sp := 0x23FE#16 }))).map (fun t => (t.h, t.l, t.read 0x23FE#16, t.read 0x23FF#16)) =
      some (0x0D#8, 0xF0#8, 0x3C#8, 0x0B#8) := by decide

theorem test_V148_xthl :
    (nextOf (step (placed 0x0100#16 [0xE3#8] [(0x1000#16, 0xF0#8), (0x1001#16, 0x0D#8)]
      { State.reset with h := 0x0B#8, l := 0x3C#8, sp := 0x1000#16 }))).map (fun t => (t.h, t.l, t.events)) =
      some (0x0D#8, 0xF0#8, [⟨0x1000#16, 0x3C#8, .readOnly⟩, ⟨0x1001#16, 0x0B#8, .readOnly⟩]) := by decide

theorem test_V149_sphl :
    (nextOf (step (placed 0x0100#16 [0xF9#8] []
      { State.reset with h := 0x50#8, l := 0x6C#8 }))).map (fun t => t.sp) =
      some 0x506C#16 := by decide

theorem test_V150_xchg :
    (nextOf (step (placed 0x0100#16 [0xEB#8] []
      { State.reset with d := 0x33#8, e := 0x55#8, l := 0xFF#8 }))).map (fun t => (t.d, t.e, t.h, t.l)) =
      some (0x00#8, 0xFF#8, 0x33#8, 0x55#8) := by decide

theorem test_V160_ei :
    (nextOf (step (placed 0x0100#16 [0xFB#8] []
      State.reset))).map (fun t => t.ie) =
      some true := by decide

theorem test_V161_di :
    (nextOf (step (placed 0x0100#16 [0xF3#8] []
      { State.reset with ie := true }))).map (fun t => t.ie) =
      some false := by decide

theorem test_V162_hlt :
    (nextOf (step (placed 0x0005#16 [0x76#8] []
      State.reset))).map (fun t => t.pc) =
      some 0x0006#16 := by decide

theorem test_V163_in :
    (nextOf (step (placed 0x0100#16 [0xDB#8, 0x01#8] []
      { State.reset with a := 0x55#8 }))).map (fun t => t.pc) =
      some 0x0102#16 := by decide

theorem test_V164_out :
    (nextOf (step (placed 0x0100#16 [0xD3#8, 0x02#8] []
      { State.reset with a := 0x55#8 }))).map (fun t => t.pc) =
      some 0x0102#16 := by decide

theorem test_V166_nop :
    (nextOf (step (placed 0xFFFF#16 [0x00#8] []
      State.reset))).map (fun t => t.pc) =
      some 0x0000#16 := by decide

theorem test_V171_unrecognised :
    faultOf (step (placed 0x0100#16 [0xCB#8, 0x00#8, 0x30#8] []
      State.reset)) =
      some (.decodeFailure 0x0100#16 0xCB#8) := by decide

theorem test_V176_unrecognised :
    faultOf (step (placed 0x0100#16 [0x38#8] []
      State.reset)) =
      some (.decodeFailure 0x0100#16 0x38#8) := by decide

theorem test_V180_inject :
    (fun t : State => (t.sp, t.ie, t.pc, t.read 0x23FE#16, t.read 0x23FF#16)) ((placed 0x1234#16 [] []
      { State.reset with ie := true } : State).injectRst 1) =
      (0x23FE#16, false, 0x0008#16, 0x34#8, 0x12#8) := by decide

theorem test_V182_inject :
    (fun t : State => (t.sp, t.ie, t.pc, t.events)) ((placed 0x0200#16 [] []
      { State.reset with sp := 0x1000#16, ie := true } : State).injectRst 7) =
      (0x0FFE#16, false, 0x0038#16, [⟨0x0FFE#16, 0x00#8, .readOnly⟩, ⟨0x0FFF#16, 0x02#8, .readOnly⟩]) := by decide

/-! ## The host's two questions on a word of the table -/

/-- The word of a three-byte row is stored at pc, in memory that is canonical, and the next step runs it. -/
theorem test_withFetchWord_lxi_h :
    ((State.reset.withFetchWord 24 0x123421).mem, (nextOf (step (State.reset.withFetchWord 24 0x123421))).map (fun t => (t.h, t.l))) =
      ([(0, 0x21#8), (1, 0x34#8), (2, 0x12#8)], some (0x12#8, 0x34#8)) := by decide

/-- With 8 bits the operand bytes are zero. -/
theorem test_withFetchWord_zero_operands :
    (decodeTableWord 8 0xFFFFC3, (nextOf (step ((State.reset.withFetchWord 8 0xFFFFC3)))).map (fun t => t.pc)) =
      (some (.jmp 0x0000#16), some 0x0000#16) := by decide

/-- The word wraps from the top of the address space to address 0 (10_state.md R21). -/
theorem test_withFetchWord_wraps :
    (({ State.reset with pc := 0xFFFF#16 } : State).withFetchWord 16 0x553E).mem = [(0, 0x55#8), (65535, 0x3E#8)] := by decide

/-! ## The driver and the disassembler -/

/-- 60_exceptions.md R206: a decode failure ends the run, and the driver gets the address and the byte. -/
theorem test_driver_ends_at_decode_failure :
    (drive [.injectRst 1, .step, .step] (placed 0x0100#16 [0x08#8] [] State.reset)).2 =
      [.injected [], .decodeFailure 0x0100#16 0x08#8] := by decide

/-- 30_encoding.md R83: the byte 0x00 is the "no operation" mnemonic with length 1. -/
theorem test_disassemble_zero_byte : ((disassemble [] 0).mnemonic, (disassemble [] 0).length) = ("NOP", 1) := by decide

/-! ## Witnesses: a concrete input that meets the hypotheses of each statement that has some -/

/-- A state with every flag set. -/
def flagsSet : State := { State.reset with f := ⟨true, true, true, true, true⟩ }

theorem witness_DecodeOfEncodeIsTheInstruction :
    (Instr.lxiH 0xFFFF#16).wellFormed = true ∧ (Instr.unrecognised 0xFD#8).wellFormed = true := by decide

theorem witness_EncodeOfDecodeIsTheWord :
    decode [0x21#8, 0x34#8, 0x12#8, 0x99#8] = .ok (.lxiH 0x1234#16, [0x99#8]) := rfl

theorem witness_DecodeTakesTheLengthOfTheOpcode :
    opcodeLength 0x21#8 ≤ [0x34#8, 0x12#8].length + 1 ∧ [0x34#8].length + 1 < opcodeLength 0x21#8 ∧
      opcodeLength 0x00#8 ≤ ([] : List Byte).length + 1 := by decide

/-- The state of the witnesses below: the byte `op` and two operand bytes at 0x0100, over the reset state. -/
def atOp (op : Byte) : State := placed 0x0100#16 [op, 0x00#8, 0x30#8] [] State.reset

theorem witness_StepRunsTheDecodedInstruction :
    (let s := atOp 0xCD#8; decode [s.read s.pc, s.read (s.pc + 1), s.read (s.pc + 2)] = .ok (.call 0x3000#16, [])) ∧
    (let s := atOp 0xED#8; decode [s.read s.pc, s.read (s.pc + 1), s.read (s.pc + 2)] =
      .ok (.unrecognised 0xED#8, [0x00#8, 0x30#8])) := ⟨rfl, rfl⟩

theorem witness_DecodeFailureCarriesAddressAndOpcode :
    (atOp 0xED#8).read (atOp 0xED#8).pc ∈ unrecognisedOpcodes ∧
      faultOf (step (atOp 0xED#8)) = some (.decodeFailure 0x0100#16 0xED#8) := by decide

theorem witness_UnrecognisedStopsWithStateUnchanged : (atOp 0x08#8).read (atOp 0x08#8).pc ∈ unrecognisedOpcodes := by decide

theorem witness_RecognisedOpcodesAlwaysStep :
    (atOp 0xC9#8).read (atOp 0xC9#8).pc ∉ unrecognisedOpcodes ∧ (atOp 0xD9#8).read (atOp 0xD9#8).pc ∈ unrecognisedOpcodes := by
  decide

/-- Each clause of the statement: the step answers next, and the instruction has the clause's form. -/
theorem witness_ProgramCounterAfterStep :
    (List.map (fun op => ((atOp op).fetchInstr, transfersControl (atOp op).fetchInstr, (nextOf (step (atOp op))).isSome))
      [0x00#8, 0xC2#8, 0xDC#8, 0xF8#8, 0xC3#8, 0xCD#8, 0xC9#8, 0xFF#8, 0xE9#8]) =
    [(.nop, false, true), (.ofJump .nz 0x3000#16, true, true), (.ofCall .c 0x3000#16, true, true), (.ofRet .m, true, true),
     (.jmp 0x3000#16, true, true), (.call 0x3000#16, true, true), (.ret, true, true), (.ofRst 7, true, true),
     (.pchl, true, true)] ∧
    faultOf (step (atOp 0xED#8)) = some (.decodeFailure 0x0100#16 0xED#8) := by decide

/-- The boundary image lengths: 0, 65536 and 65537. -/
theorem witness_CreateLeavesTheResetValues :
    ([] : List Byte).length ≤ 65536 ∧ (List.replicate 65536 0x00#8).length ≤ 65536 ∧ 65536 < (List.replicate 65537 0x00#8).length := by
  simp only [List.length_replicate]; decide

theorem witness_CreatedStateIsLegal :
    Config.originalMap.Valid ∧ Memory.wf [(0x2100, 0x55#8)] = true ∧
      (State.create Config.originalMap 0x0000#16 0x2400#16 [(0x2100, 0x55#8)] [0x3E#8, 0x05#8]).map (fun t => t.mem) =
        some [(0, 0x3E#8), (1, 0x05#8), (0x2100, 0x55#8)] := by decide

theorem witness_StepKeepsTheInvariant :
    ((atOp 0xCD#8).mem.wf = true ∧ (atOp 0xCD#8).map.Valid) ∧ (nextOf (step (atOp 0xCD#8))).isSome = true := by decide

theorem witness_DriverRunKeepsTheInvariant : (atOp 0xCD#8).mem.wf = true ∧ (atOp 0xCD#8).map.Valid := by decide

/-- Each clause at the edges of its zone. -/
theorem witness_GuardedWriteFollowsTheZones :
    List.map (fun addr : Word => (decide (addr.toNat < State.reset.map.romEnd), decide (InRam State.reset.map addr)))
      [0x0000#16, 0x1FFF#16, 0x2000#16, 0x3FFF#16, 0x4000#16, 0xFFFF#16] =
    [(true, false), (true, false), (false, true), (false, true), (false, false), (false, false)] := by decide

theorem witness_StepNeverChangesBytesOutsideRam :
    (nextOf (step (atOp 0xCD#8))).isSome = true ∧ ¬ InRam (atOp 0xCD#8).map 0x1FFF#16 ∧ ¬ InRam (atOp 0xCD#8).map 0x4000#16 := by
  decide

theorem witness_DriverRunNeverChangesBytesOutsideRam : ¬ InRam State.reset.map 0x1FFF#16 ∧ ¬ InRam State.reset.map 0x4000#16 := by
  decide

/-- The two bytes at the lower and at the upper edge of RAM. -/
theorem witness_TwoByteAccessIsLittleEndian :
    State.reset.mem.wf = true ∧ InRam State.reset.map 0x2000#16 ∧ InRam State.reset.map (0x2000#16 + 1) ∧
      InRam State.reset.map 0x3FFE#16 ∧ InRam State.reset.map (0x3FFE#16 + 1) := by decide

/-- The lowest stack pointer whose pushes are both in RAM (the same input meets the two stack round trips below). -/
def lowStack : State := { State.reset with sp := 0x2002#16 }

/-- The highest one. -/
def highStack : State := { State.reset with sp := 0x4000#16 }

theorem witness_PushAndPopLayout :
    (lowStack.mem.wf = true ∧ InRam lowStack.map (lowStack.sp - 2) ∧ InRam lowStack.map (lowStack.sp - 1)) ∧
    (highStack.mem.wf = true ∧ InRam highStack.map (highStack.sp - 2) ∧ InRam highStack.map (highStack.sp - 1)) := by decide

theorem witness_ReturnComesBackAfterCall :
    lowStack.mem.wf = true ∧ InRam lowStack.map (lowStack.sp - 2) ∧ InRam lowStack.map (lowStack.sp - 1) := by decide

theorem witness_StatusWordSurvivesTheStack :
    highStack.mem.wf = true ∧ InRam highStack.map (highStack.sp - 2) ∧ InRam highStack.map (highStack.sp - 1) := by decide

theorem witness_LoadImmediate : Rp.hl ≠ Rp.sp := by decide

theorem witness_IncrementDecrementPair : Rp.bc ≠ Rp.sp := by decide

/-- 41 + 58, the largest sum. -/
theorem witness_DecimalAdjustAfterBcdAddition :
    let s : State := { State.reset with a := 0x41#8, b := 0x58#8 }
    41 + 58 < 100 ∧ s.a = byteOf (41 / 10 * 16 + 41 % 10) ∧ s.b = byteOf (58 / 10 * 16 + 58 % 10) := by decide

/-- Each of the eight conditions holds in one of the two states and fails in the other. -/
theorem witness_JumpFamily :
    List.map (fun cond => (decide (Taken State.reset cond), decide (Taken flagsSet cond)))
      [.nz, .z, .nc, .c, .po, .pe, .p, .m] =
    [(true, false), (false, true), (true, false), (false, true), (true, false), (false, true), (true, false), (false, true)] := by
  decide

theorem witness_CallFamily : Taken State.reset .nc ∧ ¬ Taken flagsSet .nc := by decide

theorem witness_ReturnFamily : Taken flagsSet .pe ∧ ¬ Taken State.reset .pe := by decide

theorem witness_HltInOutNopOnlyAdvancePc :
    List.map (fun op => (atOp op).read (atOp op).pc) [0x76#8, 0x00#8, 0xDB#8, 0xD3#8] = [0x76#8, 0x00#8, 0xDB#8, 0xD3#8] := by
  decide

theorem witness_InterruptEntry : ({ State.reset with ie := true } : State).ie = true ∧ State.reset.ie = false := by decide

theorem witness_RegistersWrittenOnlyAsListed :
    (nextOf (exec (.mviB 0x05#8) State.reset)).isSome = true ∧ Reg.c ∉ regsWritten (.mviB 0x05#8) := by decide

theorem witness_FlagsWrittenOnlyAsListed :
    (nextOf (exec .inrA State.reset)).isSome = true ∧ FlagName.cy ∉ flagsWritten .inrA := by decide

theorem witness_StackLatchAndMapWrittenOnlyAsListed :
    (nextOf (exec .nop State.reset)).isSome = true ∧ writesSp .nop = false ∧ writesIe .nop = false ∧ transfersControl .nop = false := by
  decide

theorem witness_MemoryWrittenOnlyAsListed :
    (nextOf (exec .pushPsw State.reset)).isSome = true ∧ (storesOf State.reset .pushPsw).length = 2 ∧ storesOf State.reset .nop = [] := by
  decide

/-- A step with both of its stores rejected, and the same step under another partition. -/
theorem witness_StepReportsRejectedWritesAndCompletes :
    let s : State := { atOp 0xCD#8 with sp := 0x1000#16 }
    s.read s.pc ∉ unrecognisedOpcodes ∧ (nextOf (step s)).map (fun t => t.events.length) = some 2 ∧
      (nextOf (step { s with map := { romEnd := 0, ramEnd := 65536 } })).map (fun t => t.events.length) = some 0 := by decide

end Sys2Proof.Tests
end

section
/-! PROOFS. The invariant of the machine (00_scope.md R6, 20_memory.md R38): the stores of every instruction, said once, and what follows
for the state after reset, after `create` and after a step. -/

namespace Sys2Proof.Machine

/-! ## The part of the state that guarded writes read and change -/

/-- Memory, partition and event list are the same: all that a guarded write reads or changes (20_memory.md R42, R43). -/
structure State.AgreeOnStore (s t : State) : Prop where
  mem : s.mem = t.mem
  map : s.map = t.map
  events : s.events = t.events

theorem State.AgreeOnStore.refl (s : State) : s.AgreeOnStore s := ⟨rfl, rfl, rfl⟩

theorem State.AgreeOnStore.trans {s t u : State} (h : s.AgreeOnStore t) (h' : t.AgreeOnStore u) : s.AgreeOnStore u :=
  ⟨h.mem.trans h'.mem, h.map.trans h'.map, h.events.trans h'.events⟩

/-- What holds of the state that a meaning computes holds of the state that it answers. -/
theorem State.AgreeOnStore.of_next {s t u : State} (h : (.next s : Result) = .next t) (hs : s.AgreeOnStore u) :
    t.AgreeOnStore u :=
  Host.Outcome.next.inj h ▸ hs

/-- The same guarded write keeps the agreement. -/
theorem State.AgreeOnStore.write {s t : State} (h : s.AgreeOnStore t) (addr : Word) (v : Byte) :
    (s.write addr v).AgreeOnStore (t.write addr v) := by
  refine ⟨?_, by simp [h.map], by simp [State.write_events, h.map, h.events]⟩
  by_cases hr : InRam s.map addr
  · have hr' : InRam t.map addr := h.map ▸ hr
    simp only [State.write, if_pos hr, if_pos hr', h.mem]
  · have hr' : ¬ InRam t.map addr := h.map ▸ hr
    rw [State.write_mem_outside s v hr, State.write_mem_outside t v hr', h.mem]

/-- The invariant reads nothing but memory and the partition. -/
theorem State.AgreeOnStore.inv {s t : State} (h : s.AgreeOnStore t) (ht : t.Inv) : s.Inv := by
  unfold State.Inv
  rw [h.mem, h.map]
  exact ht

/-! ## A list of guarded writes -/

/-- The guarded byte writes of a list, in its order. -/
def State.storeAll (s : State) : List (Word × Byte) → State
  | [] => s
  | w :: ws => (s.write w.1 w.2).storeAll ws

/-- A guarded write keeps the invariant. -/
theorem State.write_inv {s : State} (hs : s.Inv) (addr : Word) (v : Byte) : (s.write addr v).Inv := by
  obtain ⟨hwf, hmap⟩ := hs
  exact ⟨State.write_wf hwf addr v, by simpa using hmap⟩

/-- A list of guarded writes keeps the invariant. -/
theorem State.storeAll_inv {s : State} (hs : s.Inv) (ws : List (Word × Byte)) : (s.storeAll ws).Inv := by
  induction ws generalizing s with
  | nil => exact hs
  | cons w ws ih => exact ih (State.write_inv hs w.1 w.2)

/-! ## The stores of the shared shapes -/

/-- A push stores its two bytes at sp - 2 and sp - 1 (44_stack_control.md R144). -/
theorem State.push_agrees (s : State) (v : Word) : (s.push v).AgreeOnStore (s.storeAll (pushedBytes s v)) := by
  have hsp : s.sp - 2 + 1 = s.sp - 1 := by bv_omega
  unfold State.push State.write16
  rw [hsp]
  exact ⟨rfl, rfl, rfl⟩

/-- A call pushes pc (44_stack_control.md R154). -/
theorem State.call_agrees (s : State) (target : Word) : (s.call target).AgreeOnStore (s.storeAll (pushedBytes s s.pc)) :=
  have hpush : (s.call target).AgreeOnStore (s.push s.pc) := ⟨rfl, rfl, rfl⟩
  hpush.trans (s.push_agrees s.pc)

/-- A restart pushes pc (44_stack_control.md R172). -/
theorem State.restart_agrees (s : State) (n : Fin 8) : (s.restart n).AgreeOnStore (s.storeAll (pushedBytes s s.pc)) :=
  have hpush : (s.restart n).AgreeOnStore (s.push s.pc) := ⟨rfl, rfl, rfl⟩
  hpush.trans (s.push_agrees s.pc)

/-- A conditional call pushes pc when it is taken, and stores nothing otherwise (44_stack_control.md R155). -/
theorem State.callIf_agrees (s : State) (cond : Cond) (target : Word) :
    (s.callIf cond target).AgreeOnStore (s.storeAll (if condHolds s.f cond then pushedBytes s s.pc else [])) := by
  unfold State.callIf
  split
  · exact s.call_agrees target
  · exact .refl s

/-- A conditional jump stores nothing (44_stack_control.md R146). -/
theorem State.jumpIf_agrees (s : State) (cond : Cond) (target : Word) : (s.jumpIf cond target).AgreeOnStore s := by
  unfold State.jumpIf
  split <;> exact ⟨rfl, rfl, rfl⟩

/-- A conditional return stores nothing (44_stack_control.md R164). -/
theorem State.retIf_agrees (s : State) (cond : Cond) : (s.retIf cond).AgreeOnStore s := by
  unfold State.retIf
  split <;> exact ⟨rfl, rfl, rfl⟩

/-- INR M and DCR M write their flags before the byte, which changes nothing for the guard (41_arithmetic.md R118, R120). -/
theorem State.setFlags_writeM_agrees (s : State) (f : Flags) (v : Byte) :
    ({ s with f := f }.writeM v).AgreeOnStore (s.storeAll [(s.pair .hl, v)]) :=
  have hflags : ({ s with f := f } : State).AgreeOnStore s := ⟨rfl, rfl, rfl⟩
  hflags.write (s.pair .hl) v

/-- SHLD stores L, then H (40_data_transfer.md R102, 20_memory.md R46). -/
theorem State.write16_hl_agrees (s : State) (addr : Word) :
    (s.write16 addr (s.pair .hl)).AgreeOnStore (s.storeAll [(addr, s.l), (addr + 1, s.h)]) := by
  unfold State.write16 State.pair
  rw [lo8_joinBytes, hi8_joinBytes]
  exact .refl _

/-! ## The stores of every instruction -/

/-- Whatever an instruction does, memory, partition and events come out as its listed guarded writes leave them (20_memory.md R50,
R56). -/
theorem exec_agrees_storesOf {i : Instr} {s t : State} (h : exec i s = .next t) :
    t.AgreeOnStore (s.storeAll (storesOf s i)) := by
  cases i with
  | unrecognised op => cases h
  | inrM | dcrM => exact .of_next h (s.setFlags_writeM_agrees _ _)
  | shld addr => exact .of_next h (s.write16_hl_agrees addr)
  | pushB | pushD | pushH | pushPsw => exact .of_next h (s.push_agrees _)
  | call target => exact .of_next h (s.call_agrees target)
  | cnz target | cz target | cnc target | cc target | cpo target | cpe target | cp target | cm target =>
    exact .of_next h (s.callIf_agrees _ target)
  | rst0 | rst1 | rst2 | rst3 | rst4 | rst5 | rst6 | rst7 => exact .of_next h (s.restart_agrees _)
  | jnz target | jz target | jnc target | jc target | jpo target | jpe target | jp target | jm target =>
    exact .of_next h (s.jumpIf_agrees _ target)
  | rnz | rz | rnc | rc | rpo | rpe | rp | rm => exact .of_next h (s.retIf_agrees _)
  | _ =>
    -- nothing stored, or the listed writes themselves: both sides compute to the same fields
    exact .of_next h ⟨rfl, rfl, rfl⟩

/-- Every meaning keeps the invariant. -/
theorem exec_inv {i : Instr} {s t : State} (hs : s.Inv) (h : exec i s = .next t) : t.Inv :=
  (exec_agrees_storesOf h).inv (State.storeAll_inv hs (storesOf s i))

/-- Settles O14: fetching and the cost leave memory and partition alone, and the meaning keeps the invariant. -/
theorem stepKeepsTheInvariant : Obligations.StepKeepsTheInvariant := by
  intro s t hs hstep
  obtain ⟨u, hexec, rfl⟩ := step_eq_next.1 hstep
  have hbegin : s.beginStep.Inv := hs
  have hu : u.Inv := exec_inv hbegin hexec
  exact hu

/-! ## Creation and reset -/

/-- Everything that `create` can do (60_exceptions.md R205, 70_reset_and_hazards.md R209). -/
theorem State.create_eq_some {map : MemoryMap} {entryPc initSp : Word} {initMem : Memory} {image : List Byte} {t : State} :
    State.create map entryPc initSp initMem image = some t ↔
      image.length ≤ 65536 ∧
        t = { State.reset with pc := entryPc, sp := initSp, map := map, mem := initMem.load 0 image } := by
  simp [State.create, eq_comm]

/-- Settles O13: the partition is the given one, and loading an image that fits keeps the canonical form. -/
theorem createdStateIsLegal : Obligations.CreatedStateIsLegal := by
  intro map entryPc initSp initMem image t hmap hmem hcreate
  obtain ⟨hlen, rfl⟩ := State.create_eq_some.1 hcreate
  have hload : (initMem.load 0 image).wf = true := Memory.load_wf hmem (by omega)
  exact ⟨hload, hmap⟩

/-- Settles O12: memory lists nothing, and 0x2000 ≤ 0x4000 ≤ 65536. -/
theorem resetStateIsLegal : Obligations.ResetStateIsLegal := by
  have hmap : Config.originalMap.Valid := by decide
  exact ⟨rfl, hmap⟩

end Sys2Proof.Machine
end

section
/-! PROOFS. The state (10_state.md): the status word, creation, what every instruction leaves alone, and how pc moves in a step. -/

namespace Sys2Proof.Machine

/-! ## The status word -/

/-- A truth value as a byte has it at bit 0 and nothing above. -/
@[simp] theorem bitByte_getElem (b : Bool) (k : Nat) (h : k < 8) : (bitByte b)[k] = (decide (k = 0) && b) := by
  cases b <;> simp [bitByte]

/-- Unpacking reads the five bits at which packing put the flags (10_state.md R24, R25). -/
@[simp] theorem unpackPsw_packPsw (f : Flags) : unpackPsw (packPsw f) = f := by
  simp [unpackPsw, packPsw]

/-- The status word after reset (10_state.md R35, decision D6). -/
theorem packPsw_cleared : packPsw Flags.cleared = 0x02#8 := by
  decide

/-- Settles O22: each shifted flag byte has its flag at one bit, and 0x02 has bit 1 alone. -/
theorem statusWordLayoutAndRoundTrip : Obligations.StatusWordLayoutAndRoundTrip := by
  refine ⟨fun f => ⟨unpackPsw_packPsw f, ?_⟩, fun b => ⟨rfl, rfl, rfl, rfl, rfl⟩⟩
  simp [packPsw]

/-! ## Loading an image -/

/-- The loader's writes leave every byte outside the image alone (70_reset_and_hazards.md R209). -/
theorem Memory.read_load_outside (m : Memory) {k n : Nat} (image : List Byte) (h : n < k ∨ k + image.length ≤ n) :
    (m.load k image).read n = m.read n := by
  induction image generalizing m k with
  | nil => rfl
  | cons v image ih =>
    rw [List.length_cons] at h
    have hne : n ≠ k := by omega
    calc ((m.write k v).load (k + 1) image).read n
        = (m.write k v).read n := ih _ (by omega)
      _ = m.read n := Memory.read_write_other m v hne

/-- The loader puts byte `n` of the image at address `k + n` (70_reset_and_hazards.md R209). -/
theorem Memory.read_load_inside {m : Memory} (hm : m.wf = true) {k : Nat} {image : List Byte} (h : k + image.length ≤ 65536)
    {n : Nat} (hn : n < image.length) : (m.load k image).read (k + n) = image[n] := by
  induction image generalizing m k n with
  | nil => cases hn
  | cons v image ih =>
    rw [List.length_cons] at h hn
    cases n with
    | zero =>
      calc ((m.write k v).load (k + 1) image).read k
          = (m.write k v).read k := Memory.read_load_outside _ image (by omega)
        _ = v := Memory.read_write_same hm k v
    | succ n =>
      have hwf : (m.write k v).wf = true := Memory.write_wf hm (by omega) v
      have hk : k + (n + 1) = k + 1 + n := by omega
      rw [hk]
      exact ih hwf (by omega) (by omega)

/-- Settles O11: creation writes the parameters into the reset state and loads the image. -/
theorem createLeavesTheResetValues : Obligations.CreateLeavesTheResetValues := by
  intro map entryPc initSp initMem image
  constructor
  · intro hlen
    refine ⟨_, State.create_eq_some.2 ⟨hlen, rfl⟩, ?_, ?_, packPsw_cleared, rfl, rfl, rfl, rfl, ?_, ?_⟩
    · intro r
      cases r <;> rfl
    · intro n
      cases n <;> rfl
    · intro hwf k hk
      have hread := Memory.read_load_inside hwf (by omega : 0 + image.length ≤ 65536) hk
      rwa [Nat.zero_add] at hread
    · intro k hk
      exact Memory.read_load_outside initMem image (by omega)
  · intro hlen
    exact if_neg (by omega)

/-! ## The stack in RAM -/

/-- A guarded write in RAM reports nothing (20_memory.md R42). -/
theorem State.write_events_in_ram {s : State} {addr : Word} (v : Byte) (h : InRam s.map addr) :
    (s.write addr v).events = s.events := by
  rw [State.write, if_pos h]

/-- A push with both bytes in RAM reports nothing (44_stack_control.md R144, 20_memory.md R42). -/
theorem State.push_events_in_ram {s : State} (v : Word) (hlo : InRam s.map (s.sp - 2)) (hhi : InRam s.map (s.sp - 1)) :
    (s.push v).events = s.events := by
  have hsp : s.sp - 2 + 1 = s.sp - 1 := by bv_omega
  calc (s.push v).events
      = ((s.write (s.sp - 2) (lo8 v)).write (s.sp - 2 + 1) (hi8 v)).events := rfl
    _ = (s.write (s.sp - 2) (lo8 v)).events := State.write_events_in_ram _ (by rwa [hsp, State.write_map])
    _ = s.events := State.write_events_in_ram _ hlo

/-- What a push with both bytes in RAM stores is on top of the stack (44_stack_control.md R144). -/
theorem State.push_top {s : State} (hm : s.mem.wf = true) (v : Word) (hlo : InRam s.map (s.sp - 2))
    (hhi : InRam s.map (s.sp - 1)) : (s.push v).top = v := by
  have hsp : s.sp - 2 + 1 = s.sp - 1 := by bv_omega
  have hlow : (s.push v).read (s.sp - 2) = lo8 v := by
    calc ((s.write (s.sp - 2) (lo8 v)).write (s.sp - 2 + 1) (hi8 v)).read (s.sp - 2)
        = (s.write (s.sp - 2) (lo8 v)).read (s.sp - 2) := State.write_read_other _ _ (word_ne_succ _)
      _ = lo8 v := State.write_read_same hm _ hlo
  have hhigh : (s.push v).read (s.sp - 2 + 1) = hi8 v :=
    State.write_read_same (State.write_wf hm _ _) _ (by rwa [hsp, State.write_map])
  calc (s.push v).top
      = joinBytes ((s.push v).read (s.sp - 2 + 1)) ((s.push v).read (s.sp - 2)) := rfl
    _ = v := by rw [hlow, hhigh, joinBytes_hi8_lo8]

/-- POP PSW where the status word of `s` is on top of the stack brings back A and the flags of `s` (44_stack_control.md R177). -/
theorem State.popPsw_of_top {s u : State} (h : u.top = joinBytes s.a (packPsw s.f)) :
    u.popPsw = { u with a := s.a, f := s.f, sp := u.sp + 2 } := by
  rw [State.popPsw, h, hi8_joinBytes, lo8_joinBytes, unpackPsw_packPsw]
  rfl

/-- Settles O52: XRA A leaves the pushed word and sp alone, and POP PSW unpacks that word. -/
theorem statusWordSurvivesTheStack : Obligations.StatusWordSurvivesTheStack := by
  intro s hm hlo hhi
  have htop : (s.pushPsw.alu .xra (s.pushPsw.reg .a)).top = joinBytes s.a (packPsw s.f) := State.push_top hm _ hlo hhi
  refine ⟨_, rfl, ?_⟩
  rw [State.popPsw_of_top htop]
  simp [State.pushPsw, State.push_events_in_ram _ hlo hhi]

/-! ## What an instruction may write, as one record -/

/-- The fields of State that something may write, memory and the outputs of a step aside. -/
structure Writes where
  regs : List Reg
  flags : List FlagName
  sp : Bool
  ie : Bool
  pc : Bool

/-- What an instruction may write: its rows in the tables of 10_state.md R19, R22, R26, R28 and R29. -/
def writesOf (i : Instr) : Writes where
  regs := regsWritten i
  flags := flagsWritten i
  sp := writesSp i
  ie := writesIe i
  pc := transfersControl i

/-- What two writers may write, one after the other. -/
def Writes.union (w w' : Writes) : Writes where
  regs := w.regs ++ w'.regs
  flags := w.flags ++ w'.flags
  sp := w.sp || w'.sp
  ie := w.ie || w'.ie
  pc := w.pc || w'.pc

/-- Nothing but memory and the outputs of a step. -/
def Writes.nothing : Writes := { regs := [], flags := [], sp := false, ie := false, pc := false }

/-- Every flag (10_state.md R23). -/
def FlagName.all : List FlagName := [.cy, .ac, .p, .z, .s]

/-- `s` and `t` agree on all that `w` does not list, and on the partition, which nothing writes (10_state.md R30). -/
structure State.AgreeOutside (w : Writes) (s t : State) : Prop where
  reg : ∀ r, r ∉ w.regs → t.reg r = s.reg r
  flag : ∀ n, n ∉ w.flags → flagOf t.f n = flagOf s.f n
  sp : w.sp = false → t.sp = s.sp
  ie : w.ie = false → t.ie = s.ie
  pc : w.pc = false → t.pc = s.pc
  map : t.map = s.map

namespace State.AgreeOutside

theorem refl (w : Writes) (s : State) : AgreeOutside w s s :=
  ⟨fun _ _ => rfl, fun _ _ => rfl, fun _ => rfl, fun _ => rfl, fun _ => rfl, rfl⟩

/-- One writer after another. -/
theorem trans {w w' : Writes} {s t u : State} (h : AgreeOutside w s t) (h' : AgreeOutside w' t u) :
    AgreeOutside (w.union w') s u where
  reg r hr := by
    obtain ⟨hw, hw'⟩ := not_or.1 (mt List.mem_append.2 hr)
    exact (h'.reg r hw').trans (h.reg r hw)
  flag n hn := by
    obtain ⟨hw, hw'⟩ := not_or.1 (mt List.mem_append.2 hn)
    exact (h'.flag n hw').trans (h.flag n hw)
  sp hsp := by
    obtain ⟨hw, hw'⟩ := Bool.or_eq_false_iff.1 hsp
    exact (h'.sp hw').trans (h.sp hw)
  ie hie := by
    obtain ⟨hw, hw'⟩ := Bool.or_eq_false_iff.1 hie
    exact (h'.ie hw').trans (h.ie hw)
  pc hpc := by
    obtain ⟨hw, hw'⟩ := Bool.or_eq_false_iff.1 hpc
    exact (h'.pc hw').trans (h.pc hw)
  map := h'.map.trans h.map

/-- What holds of the state that a meaning computes holds of the state that it answers. -/
theorem of_next {w : Writes} {s t u : State} (h : (.next s : Result) = .next t) (hs : AgreeOutside w u s) :
    AgreeOutside w u t :=
  Host.Outcome.next.inj h ▸ hs

end State.AgreeOutside

/-! ## What the state's operations leave alone -/

/-- INR keeps cy (41_arithmetic.md R117, decision D16). -/
theorem incOp_cy (v : Byte) (f : Flags) : (incOp v f).flags.cy = f.cy := rfl

/-- DCR keeps cy (41_arithmetic.md R119, decision D16). -/
theorem decOp_cy (v : Byte) (f : Flags) : (decOp v f).flags.cy = f.cy := rfl

/-- A register write leaves all but its register alone. -/
theorem State.setReg_agreeOutside (s : State) (r : Reg) (v : Byte) :
    State.AgreeOutside { Writes.nothing with regs := [r] } s (s.setReg r v) where
  reg r' hr := s.setReg_reg_other r r' v fun e => hr (e ▸ List.mem_singleton_self r)
  flag n _ := by simp
  sp _ := by simp
  ie _ := by simp
  pc _ := by simp
  map := by simp

/-- A write of the flags leaves the flags alone that it gives their old value. -/
theorem State.setFlags_agreeOutside {s : State} {f : Flags} (flags : List FlagName)
    (hf : ∀ n, n ∉ flags → flagOf f n = flagOf s.f n) :
    State.AgreeOutside { Writes.nothing with flags := flags } s { s with f := f } :=
  ⟨fun r _ => by cases r <;> rfl, hf, fun _ => rfl, fun _ => rfl, fun _ => rfl, rfl⟩

/-- Every flag is one of the five. -/
theorem FlagName.mem_all (n : FlagName) : n ∈ FlagName.all := by
  cases n <;> decide

/-- A write of all five flags. -/
theorem State.setAllFlags_agreeOutside (s : State) (f : Flags) :
    State.AgreeOutside { Writes.nothing with flags := FlagName.all } s { s with f := f } :=
  State.setFlags_agreeOutside _ fun n hn => absurd n.mem_all hn

/-- A write of cy alone (10_state.md R26, the rows of DAD, STC, CMC and the rotates). -/
theorem State.setCy_agreeOutside (s : State) (cy : Bool) :
    State.AgreeOutside { Writes.nothing with flags := [.cy] } s { s with f := { s.f with cy := cy } } :=
  State.setFlags_agreeOutside _ fun n hn => by
    cases n with
    | cy => exact absurd (List.mem_singleton_self _) hn
    | ac | p | z | s => rfl

/-- A write of the flags that keeps cy (10_state.md R26, the rows of INR and DCR). -/
theorem State.setFlags_agreeOutside_of_cy (s : State) {f : Flags} (hcy : f.cy = s.f.cy) :
    State.AgreeOutside { Writes.nothing with flags := [.ac, .p, .z, .s] } s { s with f := f } :=
  State.setFlags_agreeOutside _ fun n hn => by
    cases n with
    | cy => exact hcy
    | ac | p | z | s => exact absurd (by decide) hn

/-- A guarded write changes memory and events only. -/
theorem State.write_agreeOutside (s : State) (addr : Word) (v : Byte) : State.AgreeOutside Writes.nothing s (s.write addr v) where
  reg r _ := by cases r <;> simp [State.reg]
  flag n _ := by simp
  sp _ := by simp
  ie _ := by simp
  pc _ := by simp
  map := by simp

/-- A two-byte guarded write is two guarded writes. -/
theorem State.write16_agreeOutside (s : State) (addr v : Word) : State.AgreeOutside Writes.nothing s (s.write16 addr v) :=
  (s.write_agreeOutside addr (lo8 v)).trans (State.write_agreeOutside _ (addr + 1) (hi8 v))

/-- A write of sp. -/
theorem State.setSp_agreeOutside (s : State) (v : Word) :
    State.AgreeOutside { Writes.nothing with sp := true } s { s with sp := v } :=
  ⟨fun r _ => by cases r <;> rfl, fun _ _ => rfl, nofun, fun _ => rfl, fun _ => rfl, rfl⟩

/-- A write of the latch. -/
theorem State.setIe_agreeOutside (s : State) (v : Bool) :
    State.AgreeOutside { Writes.nothing with ie := true } s { s with ie := v } :=
  ⟨fun r _ => by cases r <;> rfl, fun _ _ => rfl, fun _ => rfl, nofun, fun _ => rfl, rfl⟩

/-- A jump writes pc. -/
theorem State.jump_agreeOutside (s : State) (target : Word) :
    State.AgreeOutside { Writes.nothing with pc := true } s (s.jump target) :=
  ⟨fun r _ => by cases r <;> rfl, fun _ _ => rfl, fun _ => rfl, fun _ => rfl, nofun, rfl⟩

/-! ## What the shared shapes of the meanings leave alone -/

/-- A pair is its two registers (10_state.md R17). -/
theorem State.setPair_agreeOutside (s : State) (p : Pair) (v : Word) :
    State.AgreeOutside { Writes.nothing with regs := pairRegs p } s (s.setPair p v) := by
  cases p with
  | bc => exact (s.setReg_agreeOutside .b (hi8 v)).trans (State.setReg_agreeOutside _ .c (lo8 v))
  | de => exact (s.setReg_agreeOutside .d (hi8 v)).trans (State.setReg_agreeOutside _ .e (lo8 v))
  | hl => exact (s.setReg_agreeOutside .h (hi8 v)).trans (State.setReg_agreeOutside _ .l (lo8 v))

/-- An ALU result goes to A and the flags. -/
theorem State.setAcc_agreeOutside (s : State) (r : AluResult) :
    State.AgreeOutside { Writes.nothing with regs := [.a], flags := FlagName.all } s (s.setAcc r) :=
  (s.setAllFlags_agreeOutside r.flags).trans (State.setReg_agreeOutside _ .a r.value)

/-- INR of a register writes it and every flag but cy (41_arithmetic.md R117). -/
theorem State.incReg_agreeOutside (s : State) (r : Reg) :
    State.AgreeOutside { Writes.nothing with regs := [r], flags := [.ac, .p, .z, .s] } s (s.incReg r) :=
  (s.setFlags_agreeOutside_of_cy (incOp_cy _ s.f)).trans (State.setReg_agreeOutside _ r _)

/-- DCR of a register writes it and every flag but cy (41_arithmetic.md R119). -/
theorem State.decReg_agreeOutside (s : State) (r : Reg) :
    State.AgreeOutside { Writes.nothing with regs := [r], flags := [.ac, .p, .z, .s] } s (s.decReg r) :=
  (s.setFlags_agreeOutside_of_cy (decOp_cy _ s.f)).trans (State.setReg_agreeOutside _ r _)

/-- INR M writes every flag but cy, and one byte of memory (41_arithmetic.md R118). -/
theorem State.incM_agreeOutside (s : State) :
    State.AgreeOutside { Writes.nothing with flags := [.ac, .p, .z, .s] } s s.incM :=
  (s.setFlags_agreeOutside_of_cy (incOp_cy _ s.f)).trans (State.write_agreeOutside _ _ _)

/-- DCR M writes every flag but cy, and one byte of memory (41_arithmetic.md R120). -/
theorem State.decM_agreeOutside (s : State) :
    State.AgreeOutside { Writes.nothing with flags := [.ac, .p, .z, .s] } s s.decM :=
  (s.setFlags_agreeOutside_of_cy (decOp_cy _ s.f)).trans (State.write_agreeOutside _ _ _)

/-- DAD writes HL and cy (41_arithmetic.md R123). -/
theorem State.dad_agreeOutside (s : State) (rp : Rp) :
    State.AgreeOutside { Writes.nothing with regs := [.h, .l], flags := [.cy] } s (s.dad rp) :=
  (s.setCy_agreeOutside _).trans (State.setPair_agreeOutside _ .hl _)

/-- A rotate writes A and cy (43_rotate.md R140 to R143). -/
theorem State.rotateA_agreeOutside (s : State) (r : RotateResult) :
    State.AgreeOutside { Writes.nothing with regs := [.a], flags := [.cy] } s (s.rotateA r) :=
  (s.setCy_agreeOutside r.cy).trans (State.setReg_agreeOutside _ .a r.value)

/-- A push moves sp (44_stack_control.md R144). -/
theorem State.push_agreeOutside (s : State) (v : Word) : State.AgreeOutside { Writes.nothing with sp := true } s (s.push v) :=
  (s.write16_agreeOutside (s.sp - 2) v).trans (State.setSp_agreeOutside _ _)

/-- A call, and a restart, push pc and jump (44_stack_control.md R154, R172). -/
theorem State.call_agreeOutside (s : State) (target : Word) :
    State.AgreeOutside { Writes.nothing with sp := true, pc := true } s (s.call target) :=
  (s.push_agreeOutside s.pc).trans (State.jump_agreeOutside _ target)

/-- A return moves sp and jumps (44_stack_control.md R163). -/
theorem State.popPc_agreeOutside (s : State) : State.AgreeOutside { Writes.nothing with sp := true, pc := true } s s.popPc :=
  (s.setSp_agreeOutside (s.sp + 2)).trans (State.jump_agreeOutside _ s.top)

/-- A conditional jump writes at most pc (44_stack_control.md R146). -/
theorem State.jumpIf_agreeOutside (s : State) (cond : Cond) (target : Word) :
    State.AgreeOutside { Writes.nothing with pc := true } s (s.jumpIf cond target) := by
  unfold State.jumpIf
  split
  · exact s.jump_agreeOutside target
  · exact .refl _ s

/-- A conditional call writes at most sp and pc (44_stack_control.md R155). -/
theorem State.callIf_agreeOutside (s : State) (cond : Cond) (target : Word) :
    State.AgreeOutside { Writes.nothing with sp := true, pc := true } s (s.callIf cond target) := by
  unfold State.callIf
  split
  · exact s.call_agreeOutside target
  · exact .refl _ s

/-- A conditional return writes at most sp and pc (44_stack_control.md R164). -/
theorem State.retIf_agreeOutside (s : State) (cond : Cond) :
    State.AgreeOutside { Writes.nothing with sp := true, pc := true } s (s.retIf cond) := by
  unfold State.retIf
  split
  · exact s.popPc_agreeOutside
  · exact .refl _ s

/-- POP writes its pair and sp (44_stack_control.md R176). -/
theorem State.popPair_agreeOutside (s : State) (p : Pair) :
    State.AgreeOutside { Writes.nothing with regs := pairRegs p, sp := true } s (s.popPair p) :=
  (s.setSp_agreeOutside (s.sp + 2)).trans (State.setPair_agreeOutside _ p s.top)

/-- POP PSW writes A, the flags and sp (44_stack_control.md R177). -/
theorem State.popPsw_agreeOutside (s : State) :
    State.AgreeOutside { Writes.nothing with regs := [.a], flags := FlagName.all, sp := true } s s.popPsw :=
  (s.setSp_agreeOutside (s.sp + 2)).trans (State.setAcc_agreeOutside _ { value := hi8 s.top, flags := unpackPsw (lo8 s.top) })

/-- XTHL writes HL and two bytes of memory (44_stack_control.md R178). -/
theorem State.xthl_agreeOutside (s : State) : State.AgreeOutside { Writes.nothing with regs := [.h, .l] } s s.xthl :=
  have hstore := (s.write_agreeOutside s.sp s.l).trans (State.write_agreeOutside _ (s.sp + 1) s.h)
  have hload := (State.setReg_agreeOutside _ .h (s.read (s.sp + 1))).trans (State.setReg_agreeOutside _ .l (s.read s.sp))
  hstore.trans hload

/-- XCHG writes four registers (44_stack_control.md R180). -/
theorem State.xchg_agreeOutside (s : State) : State.AgreeOutside { Writes.nothing with regs := [.d, .e, .h, .l] } s s.xchg :=
  have hde := (s.setReg_agreeOutside .d s.h).trans (State.setReg_agreeOutside _ .e s.l)
  have hhl := (State.setReg_agreeOutside _ .h s.d).trans (State.setReg_agreeOutside _ .l s.e)
  hde.trans hhl

/-! ## What every instruction leaves alone -/

/-- Every meaning writes only what the tables of 10_state.md list for its instruction (R19, R22, R26, R28, R29, R30). -/
theorem exec_agreeOutside {i : Instr} {s t : State} (h : exec i s = .next t) : State.AgreeOutside (writesOf i) s t := by
  cases i with
  | unrecognised op => cases h
  | nop | hlt | inPort port | outPort port => exact .of_next h (.refl _ s)
  -- registers and pairs
  | lxiB v | inxB | dcxB => exact .of_next h (s.setPair_agreeOutside .bc _)
  | lxiD v | inxD | dcxD => exact .of_next h (s.setPair_agreeOutside .de _)
  | lxiH v | inxH | dcxH | lhld addr => exact .of_next h (s.setPair_agreeOutside .hl _)
  | lxiSp v | inxSp | dcxSp | sphl => exact .of_next h (s.setSp_agreeOutside _)
  | xchg => exact .of_next h s.xchg_agreeOutside
  -- stores
  | movMB | movMC | movMD | movME | movMH | movML | movMA | mviM v | sta addr | staxB | staxD =>
    exact .of_next h (s.write_agreeOutside _ _)
  | shld addr => exact .of_next h (s.write16_agreeOutside _ _)
  | xthl => exact .of_next h s.xthl_agreeOutside
  -- results with flags
  | addB | addC | addD | addE | addH | addL | addM | addA | adi v | adcB | adcC | adcD | adcE | adcH | adcL | adcM | adcA | aci v
  | subB | subC | subD | subE | subH | subL | subM | subA | sui v | sbbB | sbbC | sbbD | sbbE | sbbH | sbbL | sbbM | sbbA | sbi v
  | anaB | anaC | anaD | anaE | anaH | anaL | anaM | anaA | ani v | xraB | xraC | xraD | xraE | xraH | xraL | xraM | xraA | xri v
  | oraB | oraC | oraD | oraE | oraH | oraL | oraM | oraA | ori v | daa => exact .of_next h (s.setAcc_agreeOutside _)
  | cmpB | cmpC | cmpD | cmpE | cmpH | cmpL | cmpM | cmpA | cpi v => exact .of_next h (s.setAllFlags_agreeOutside _)
  | inrB | inrC | inrD | inrE | inrH | inrL | inrA => exact .of_next h (s.incReg_agreeOutside _)
  | dcrB | dcrC | dcrD | dcrE | dcrH | dcrL | dcrA => exact .of_next h (s.decReg_agreeOutside _)
  | inrM => exact .of_next h s.incM_agreeOutside
  | dcrM => exact .of_next h s.decM_agreeOutside
  | dadB | dadD | dadH | dadSp => exact .of_next h (s.dad_agreeOutside _)
  | rlc | rrc | ral | rar => exact .of_next h (s.rotateA_agreeOutside _)
  | stc | cmc => exact .of_next h (s.setCy_agreeOutside _)
  -- control transfers
  | jmp target => exact .of_next h (s.jump_agreeOutside target)
  | pchl => exact .of_next h (s.jump_agreeOutside (s.pair .hl))
  | jnz target | jz target | jnc target | jc target | jpo target | jpe target | jp target | jm target =>
    exact .of_next h (s.jumpIf_agreeOutside _ target)
  | call target => exact .of_next h (s.call_agreeOutside target)
  | cnz target | cz target | cnc target | cc target | cpo target | cpe target | cp target | cm target =>
    exact .of_next h (s.callIf_agreeOutside _ target)
  | rst0 | rst1 | rst2 | rst3 | rst4 | rst5 | rst6 | rst7 => exact .of_next h (s.call_agreeOutside (restartAddr _))
  | ret => exact .of_next h s.popPc_agreeOutside
  | rnz | rz | rnc | rc | rpo | rpe | rp | rm => exact .of_next h (s.retIf_agreeOutside _)
  -- the stack and the latch
  | pushB | pushD | pushH | pushPsw => exact .of_next h (s.push_agreeOutside _)
  | popB => exact .of_next h (s.popPair_agreeOutside .bc)
  | popD => exact .of_next h (s.popPair_agreeOutside .de)
  | popH => exact .of_next h (s.popPair_agreeOutside .hl)
  | popPsw => exact .of_next h s.popPsw_agreeOutside
  | ei | di => exact .of_next h (s.setIe_agreeOutside _)
  | _ =>
    -- MOV r, MVI r, LDA, LDAX and CMA: one register is written
    exact .of_next h (s.setReg_agreeOutside _ _)

/-- Settles O56: the registers of `exec_agreeOutside`. -/
theorem registersWrittenOnlyAsListed : Obligations.RegistersWrittenOnlyAsListed := by
  intro i s t r hexec hr
  exact (exec_agreeOutside hexec).reg r hr

/-- Settles O57: the flags of `exec_agreeOutside`. -/
theorem flagsWrittenOnlyAsListed : Obligations.FlagsWrittenOnlyAsListed := by
  intro i s t n hexec hn
  exact (exec_agreeOutside hexec).flag n hn

/-- Settles O58: sp, the latch, pc and the partition of `exec_agreeOutside`. -/
theorem stackLatchAndMapWrittenOnlyAsListed : Obligations.StackLatchAndMapWrittenOnlyAsListed := by
  intro i s t hexec
  have hagree := exec_agreeOutside hexec
  exact ⟨hagree.sp, hagree.ie, hagree.pc, hagree.map⟩

/-! ## The length of what is fetched -/

/-- Decoding keeps the opcode byte: one evaluation per byte, none of which looks at the operand bytes (30_encoding.md R82). -/
theorem opcode_decodeOpcode (b1 b2 : Byte) : ∀ op, (decodeOpcode op b1 b2).opcode = op :=
  of_decide_eq_true rfl

/-- The first byte fetched is the byte at pc (30_encoding.md R74). -/
@[simp] theorem State.fetchByte_zero (s : State) : s.fetchByte 0 = s.read s.pc := by
  simp [State.fetchByte]

/-- The byte at pc is the opcode of the fetched instruction. -/
theorem State.opcode_fetchInstr (s : State) : s.fetchInstr.opcode = s.read s.pc := by
  rw [State.fetchInstr, opcode_decodeOpcode, State.fetchByte_zero]

/-- The meaning runs with pc past the bytes of the fetched instruction (30_encoding.md R72, log 7). -/
theorem State.beginStep_pc_of_fetchInstr {s : State} {i : Instr} (h : s.fetchInstr = i) :
    s.beginStep.pc = s.pc + BitVec.ofNat 16 (opcodeLength i.opcode) := by
  rw [State.beginStep_pc, State.fetchByte_zero, ← State.opcode_fetchInstr, h]

/-- A conditional jump has two operand bytes (30_encoding.md R64). -/
theorem opcodeLength_ofJump (cond : Cond) (target : Word) : opcodeLength (Instr.ofJump cond target).opcode = 3 := by
  cases cond <;> rfl

/-- A conditional call has two operand bytes (30_encoding.md R64). -/
theorem opcodeLength_ofCall (cond : Cond) (target : Word) : opcodeLength (Instr.ofCall cond target).opcode = 3 := by
  cases cond <;> rfl

/-- A conditional return has no operand byte (30_encoding.md R64). -/
theorem opcodeLength_ofRet (cond : Cond) : opcodeLength (Instr.ofRet cond).opcode = 1 := by
  cases cond <;> rfl

/-! ## How pc moves -/

/-- The target of restart `n` as a number (30_encoding.md R71). -/
theorem restartAddr_toNat (n : Fin 8) : (restartAddr n).toNat = 8 * n.val := by
  have hn : n.val < 8 := n.isLt
  simp only [restartAddr, BitVec.toNat_ofNat]
  omega

/-- The meaning of each restart. -/
theorem exec_ofRst (s : State) (n : Fin 8) : exec (.ofRst n) s = .next (s.restart n) := by
  fin_cases n <;> rfl

/-- pc after a conditional jump (44_stack_control.md R146). -/
theorem State.jumpIf_pc (s : State) (cond : Cond) (target : Word) :
    (s.jumpIf cond target).pc = if Taken s cond then target else s.pc := by
  rw [State.jumpIf_eq, apply_ite State.pc, State.jump_pc]

/-- pc after a conditional call (44_stack_control.md R155). -/
theorem State.callIf_pc (s : State) (cond : Cond) (target : Word) :
    (s.callIf cond target).pc = if Taken s cond then target else s.pc := by
  rw [State.callIf_eq, apply_ite State.pc, State.call_pc]

/-- pc after a conditional return (44_stack_control.md R164). -/
theorem State.retIf_pc (s : State) (cond : Cond) : (s.retIf cond).pc = if Taken s cond then s.top else s.pc := by
  rw [State.retIf_eq, apply_ite State.pc, State.popPc_pc]

/-- A step whose fetched instruction has a next state ends with the pc of that state: the cost changes no pc (30_encoding.md R72). -/
theorem step_pc_of_exec {s t u : State} {i : Instr} (hstep : step s = .next t) (hi : s.fetchInstr = i)
    (hexec : exec i s.beginStep = .next u) : t.pc = u.pc := by
  obtain ⟨v, hv, rfl⟩ := step_eq_next.1 hstep
  rw [hi, hexec] at hv
  cases hv
  rfl

/-- Settles O10: each clause is the pc of the instruction's meaning, run with pc past the instruction. -/
theorem programCounterAfterStep : Obligations.ProgramCounterAfterStep := by
  intro s
  refine ⟨fun t hstep => ⟨?_, ?_, ?_, ?_, ?_, ?_, ?_⟩, ?_⟩
  · intro hno
    obtain ⟨u, hexec, rfl⟩ := step_eq_next.1 hstep
    have hpc : u.pc = s.beginStep.pc := (exec_agreeOutside hexec).pc hno
    rwa [State.beginStep_pc, State.fetchByte_zero] at hpc
  · rintro cond a16 (hi | hi)
    · rw [step_pc_of_exec hstep hi (exec_ofJump _ _ _), State.jumpIf_pc, State.beginStep_pc_of_fetchInstr hi,
        opcodeLength_ofJump]
      rfl
    · rw [step_pc_of_exec hstep hi (exec_ofCall _ _ _), State.callIf_pc, State.beginStep_pc_of_fetchInstr hi,
        opcodeLength_ofCall]
      rfl
  · intro cond hi
    rw [step_pc_of_exec hstep hi (exec_ofRet _ _), State.retIf_pc, State.beginStep_pc_of_fetchInstr hi, opcodeLength_ofRet]
    rfl
  · rintro a16 (hi | hi)
    · exact step_pc_of_exec hstep hi rfl
    · exact step_pc_of_exec hstep hi rfl
  · intro hi
    exact step_pc_of_exec hstep hi rfl
  · intro n hi
    rw [step_pc_of_exec hstep hi (exec_ofRst _ _), State.restart_pc, restartAddr_toNat]
  · intro hi
    exact step_pc_of_exec hstep hi rfl
  · rintro ⟨addr, op⟩ rest hfault
    rw [drive, hfault]

end Sys2Proof.Machine
end

section
/-! PROOFS. Memory (20_memory.md): the guarded write, the two-byte accesses and the stack, the stores of every instruction, and that
no byte outside RAM ever changes; then what a step runs, and the loads and stores that name their operand in the instruction. -/

namespace Sys2Proof.Machine

/-! ## What a list of stores says -/

/-- A stored byte in RAM is read back. -/
theorem StoresBytes.read_stored {s t : State} {ws : List (Word × Byte)} (h : StoresBytes s t ws) (hm : s.mem.wf = true)
    {addr : Word} {v : Byte} (hw : (addr, v) ∈ ws) (hr : InRam s.map addr) : t.read addr = v := by
  obtain ⟨hback, -, -⟩ := h
  exact hback hm (addr, v) hw hr

/-- A byte outside RAM reads as before the stores. -/
theorem StoresBytes.read_outside {s t : State} {ws : List (Word × Byte)} (h : StoresBytes s t ws) {addr : Word}
    (hr : ¬ InRam s.map addr) : t.read addr = s.read addr := by
  obtain ⟨-, hframe, -⟩ := h
  exact hframe addr (.inr hr)

/-- One guarded write before stores at other addresses is one more store. -/
theorem StoresBytes.cons {s t : State} {w : Word × Byte} {ws : List (Word × Byte)} (hne : ∀ w' ∈ ws, w.1 ≠ w'.1)
    (h : StoresBytes (s.write w.1 w.2) t ws) : StoresBytes s t (w :: ws) := by
  obtain ⟨hback, hframe, hevents⟩ := h
  rw [State.write_map] at hback hframe hevents
  refine ⟨?_, ?_, ?_⟩
  · intro hm w' hw' hr
    rcases List.mem_cons.1 hw' with rfl | hw'
    · rw [hframe _ (.inl fun w'' hw'' e => hne w'' hw'' e.symm)]
      exact State.write_read_same hm _ hr
    · exact hback (State.write_wf hm _ _) w' hw' hr
  · rintro addr (hother | hr)
    · obtain ⟨hw, hws⟩ := List.forall_mem_cons.1 hother
      rw [hframe addr (.inl hws), State.write_read_other _ _ hw.symm]
    · rw [hframe addr (.inr hr), State.write_read_outside _ _ _ hr]
  · rw [hevents, State.write_events]
    cases hrej : rejectionOf s.map w <;> simp [hrej]

/-- Guarded writes at addresses that differ are stores. -/
theorem State.storeAll_stores (s : State) {ws : List (Word × Byte)} (hne : ws.Pairwise fun w w' => w.1 ≠ w'.1) :
    StoresBytes s (s.storeAll ws) ws := by
  induction hne generalizing s with
  | nil => exact .none rfl rfl
  | cons hw _ ih => exact .cons hw (ih _)

/-- A state that agrees on memory, partition and events with a list of guarded writes is the result of these stores. -/
theorem State.AgreeOnStore.stores {s t : State} {ws : List (Word × Byte)} (h : t.AgreeOnStore (s.storeAll ws))
    (hne : ws.Pairwise fun w w' => w.1 ≠ w'.1) : StoresBytes s t ws :=
  (s.storeAll_stores hne).congr rfl rfl rfl h.mem h.events

/-! ## The guarded byte write -/

/-- Settles O16: in RAM the write is one memory write, and outside it is one of the two rejections. -/
theorem guardedWriteFollowsTheZones : Obligations.GuardedWriteFollowsTheZones := by
  intro s addr v
  refine ⟨fun hram => ⟨?_, ?_, ?_⟩, fun hout hrom => ?_, fun hout habove => ?_⟩
  · rw [State.write, if_pos hram]
  · intro hm
    exact State.write_read_same hm v hram
  · intro n hn
    exact s.write_read_other v hn
  · rw [State.write, if_neg hout, if_pos hrom]
    rfl
  · rw [State.write, if_neg hout, if_neg (Nat.not_lt.2 habove)]
    rfl

/-! ## The two-byte accesses -/

/-- The low byte as the remainder by 256 (00_scope.md R8). -/
theorem lo8_eq_ofNat (v : Word) : lo8 v = BitVec.ofNat 8 (v.toNat % 256) := by
  apply BitVec.eq_of_toNat_eq
  simp [lo8_toNat]

/-- The high byte as the quotient by 256 (00_scope.md R8). -/
theorem hi8_eq_ofNat (v : Word) : hi8 v = BitVec.ofNat 8 (v.toNat / 256) := by
  have hv : v.toNat < 65536 := v.isLt
  apply BitVec.eq_of_toNat_eq
  rw [hi8_toNat, BitVec.toNat_ofNat]
  omega

/-- A two-byte write touches nothing but memory and the event list (20_memory.md R46). -/
theorem State.write16_frame (s : State) (addr v : Word) :
    s.write16 addr v = { s with mem := (s.write16 addr v).mem, events := (s.write16 addr v).events } :=
  calc s.write16 addr v
      = { s.write addr (lo8 v) with mem := (s.write16 addr v).mem, events := (s.write16 addr v).events } :=
        State.write_frame _ _ _
    _ = { s with mem := (s.write16 addr v).mem, events := (s.write16 addr v).events } := by simp

/-- A two-byte write is two stores, low byte first (20_memory.md R46, R47). -/
theorem State.write16_stores (s : State) (addr v : Word) :
    StoresBytes s (s.write16 addr v) [(addr, lo8 v), (addr + 1, hi8 v)] :=
  s.write_write_stores _ _ (word_ne_succ addr)

/-- A two-byte write with both bytes in RAM is read back (20_memory.md R45, R46). -/
theorem State.read16_write16 {s : State} (hm : s.mem.wf = true) {addr : Word} (v : Word) (hlo : InRam s.map addr)
    (hhi : InRam s.map (addr + 1)) : (s.write16 addr v).read16 addr = v := by
  have hlow : (s.write16 addr v).read addr = lo8 v := (s.write16_stores addr v).read_stored hm (by simp) hlo
  have hhigh : (s.write16 addr v).read (addr + 1) = hi8 v := (s.write16_stores addr v).read_stored hm (by simp) hhi
  rw [State.read16, hlow, hhigh, joinBytes_hi8_lo8]

/-- Settles O19: the two bytes are joined as numbers, and a two-byte write is two stores that are read back. -/
theorem twoByteAccessIsLittleEndian : Obligations.TwoByteAccessIsLittleEndian := by
  intro s addr v
  refine ⟨joinBytes_toNat _ _, s.write16_frame addr v, ?_, fun hm hlo hhi => State.read16_write16 hm v hlo hhi⟩
  rw [← lo8_eq_ofNat, ← hi8_eq_ofNat]
  exact s.write16_stores addr v

/-! ## The stack -/

/-- The two bytes of a push go to different addresses (44_stack_control.md R144). -/
theorem pushedBytes_pairwise (s : State) (v : Word) : (pushedBytes s v).Pairwise fun w w' => w.1 ≠ w'.1 := by
  have hsp : s.sp - 2 ≠ s.sp - 1 := by bv_omega
  exact List.pairwise_pair.2 hsp

/-- So do they when they are pushed on a condition (44_stack_control.md R155). -/
theorem pushedBytes_if_pairwise (s : State) (v : Word) (c : Bool) :
    (if c then pushedBytes s v else []).Pairwise fun w w' => w.1 ≠ w'.1 := by
  cases c with
  | true => exact pushedBytes_pairwise s v
  | false => exact .nil

/-- A push stores its two bytes (44_stack_control.md R144). -/
theorem State.push_stores (s : State) (v : Word) : StoresBytes s (s.push v) (pushedBytes s v) :=
  (s.push_agrees v).stores (pushedBytes_pairwise s v)

/-- A push touches nothing but sp, memory and the event list (20_memory.md R48). -/
theorem State.push_frame (s : State) (v : Word) :
    s.push v = { s with sp := s.sp - 2, mem := (s.push v).mem, events := (s.push v).events } := by
  calc s.push v
      = { s.write16 (s.sp - 2) v with sp := s.sp - 2 } := rfl
    _ = { s with sp := s.sp - 2, mem := (s.push v).mem, events := (s.push v).events } := by
        rw [s.write16_frame (s.sp - 2) v]
        rfl

/-- Settles O20: push and pop are two-byte accesses at sp - 2 and at sp, and sp moves whatever the guard does. -/
theorem pushAndPopLayout : Obligations.PushAndPopLayout := by
  intro s v
  refine ⟨s.push_frame v, s.push_stores v, rfl, rfl, ?_, fun hm hlo hhi => State.push_top hm v hlo hhi⟩
  rw [State.dropTop_sp, State.push_sp, BitVec.sub_add_cancel]

/-! ## The stores of every instruction -/

/-- The listed stores of an instruction are at addresses that differ: it stores nothing, one byte, or two bytes side by side
(20_memory.md R50). -/
theorem storesOf_pairwise (s : State) (i : Instr) : (storesOf s i).Pairwise fun w w' => w.1 ≠ w'.1 := by
  cases i with
  | movMB | movMC | movMD | movME | movMH | movML | movMA | mviM v | inrM | dcrM | sta addr | staxB | staxD =>
    exact List.pairwise_singleton _ _
  | shld addr => exact List.pairwise_pair.2 (word_ne_succ addr)
  | xthl => exact List.pairwise_pair.2 (word_ne_succ s.sp)
  | pushB | pushD | pushH | pushPsw | call target | rst0 | rst1 | rst2 | rst3 | rst4 | rst5 | rst6 | rst7 =>
    exact pushedBytes_pairwise s _
  | cnz target | cz target | cnc target | cc target | cpo target | cpe target | cp target | cm target =>
    exact pushedBytes_if_pairwise s _ _
  | _ => exact .nil

/-- Every meaning performs the listed stores of its instruction, and no other (20_memory.md R50, R56). -/
theorem exec_stores {i : Instr} {s t : State} (h : exec i s = .next t) : StoresBytes s t (storesOf s i) :=
  (exec_agrees_storesOf h).stores (storesOf_pairwise s i)

/-- Settles O59: `exec_stores`. -/
theorem memoryWrittenOnlyAsListed : Obligations.MemoryWrittenOnlyAsListed := by
  intro i s t hexec
  exact exec_stores hexec

/-! ## Bytes outside RAM -/

/-- Settles O17: the fetch and the cost leave memory alone, and the stores of the meaning leave every byte outside RAM alone. -/
theorem stepNeverChangesBytesOutsideRam : Obligations.StepNeverChangesBytesOutsideRam := by
  intro s t addr hstep hr
  obtain ⟨u, hexec, rfl⟩ := step_eq_next.1 hstep
  exact (exec_stores hexec).read_outside hr

/-- A step leaves the partition alone (10_state.md R30). -/
theorem step_map {s t : State} (h : step s = .next t) : t.map = s.map := by
  obtain ⟨u, hexec, rfl⟩ := step_eq_next.1 h
  exact (exec_agreeOutside hexec).map

/-- A restart stores the two bytes of pc (44_stack_control.md R172). -/
theorem State.restart_stores (s : State) (n : Fin 8) : StoresBytes s (s.restart n) (pushedBytes s s.pc) :=
  (s.restart_agrees n).stores (pushedBytes_pairwise s s.pc)

/-- An interrupt leaves every byte outside RAM alone (60_exceptions.md R195). -/
theorem State.injectRst_read_outside (s : State) (n : Fin 8) {addr : Word} (hr : ¬ InRam s.map addr) :
    (s.injectRst n).read addr = s.read addr := by
  rcases s.injectRst_cases n with ⟨-, e⟩ | ⟨-, e⟩ <;> rw [e]
  · exact (State.restart_stores _ n).read_outside hr
  · rfl

/-- An interrupt leaves the partition alone (10_state.md R30). -/
theorem State.injectRst_map (s : State) (n : Fin 8) : (s.injectRst n).map = s.map := by
  rcases s.injectRst_cases n with ⟨-, e⟩ | ⟨-, e⟩ <;> rw [e]
  exact State.restart_map _ n

/-- Settles O18, by induction on the driver's actions: each keeps the partition and every byte outside RAM. -/
theorem driverRunNeverChangesBytesOutsideRam : Obligations.DriverRunNeverChangesBytesOutsideRam := by
  intro actions
  induction actions with
  | nil => exact fun _ _ _ => rfl
  | cons action rest ih =>
    intro s addr hr
    cases action with
    | stop => rfl
    | injectRst n =>
      calc (drive rest (s.injectRst n)).1.read addr
          = (s.injectRst n).read addr := ih _ _ (by rwa [State.injectRst_map])
        _ = s.read addr := s.injectRst_read_outside n hr
    | step =>
      rw [drive]
      split
      · next t hstep =>
        calc (drive rest t).1.read addr
            = t.read addr := ih _ _ (by rwa [step_map hstep])
          _ = s.read addr := stepNeverChangesBytesOutsideRam s t addr hstep hr
      · rfl
      · rfl

/-! ## What a step runs -/

/-- Decoding answers a well-formed instruction: one evaluation per opcode byte, none of which looks at the operand bytes
(30_encoding.md R81). -/
theorem wellFormed_decodeOpcode (b1 b2 : Byte) : ∀ op, (decodeOpcode op b1 b2).wellFormed = true :=
  of_decide_eq_true rfl

/-- Each of the twelve unrecognised bytes decodes to itself (30_encoding.md R81). -/
theorem decodeOpcode_of_mem_unrecognised {op : Byte} (b1 b2 : Byte) (h : op ∈ unrecognisedOpcodes) :
    decodeOpcode op b1 b2 = .unrecognised op := by
  fin_cases h <;> rfl

/-- An instruction of one byte is what its opcode byte decodes to, whatever bytes follow (30_encoding.md R82). -/
theorem decodeOpcode_opcode_of_length_one {i : Instr} (hwf : i.wellFormed = true) (hlen : opcodeLength i.opcode = 1)
    (b1 b2 : Byte) : decodeOpcode i.opcode b1 b2 = i := by
  cases i with
  | unrecognised op => exact decodeOpcode_of_mem_unrecognised b1 b2 (List.contains_iff_mem.1 hwf)
  | mviB | mviC | mviD | mviE | mviH | mviL | mviM | mviA | adi | aci | sui | sbi | ani | xri | ori | cpi | inPort | outPort
  | lxiB | lxiD | lxiH | lxiSp | lda | sta | lhld | shld | jmp | jnz | jz | jnc | jc | jpo | jpe | jp | jm
  | call | cnz | cz | cnc | cc | cpo | cpe | cp | cm =>
    -- the forms with an operand are longer
    cases hlen
  | _ => rfl

/-- An opcode of length 1 reads no operand byte (30_encoding.md R82). -/
theorem decodeOpcode_of_length_one {op : Byte} (b1 b2 : Byte) (h : opcodeLength op = 1) :
    decodeOpcode op b1 b2 = decodeOpcode op 0 0 := by
  have hop : (decodeOpcode op 0 0).opcode = op := opcode_decodeOpcode 0 0 op
  have hself := decodeOpcode_opcode_of_length_one (wellFormed_decodeOpcode 0 0 op) (by rwa [hop]) b1 b2
  rwa [hop] at hself

/-- An opcode of length 2 reads the first operand byte only (30_encoding.md R82). -/
theorem decodeOpcode_of_length_two {op : Byte} (b1 b2 : Byte) (h : opcodeLength op = 2) :
    decodeOpcode op b1 b2 = decodeOpcode op b1 0 := by
  have hop : op ∈ length2Opcodes := by
    unfold opcodeLength at h
    split at h
    · next hmem => exact List.contains_iff_mem.1 hmem
    · split at h <;> cases h
  fin_cases hop <;> rfl

/-- An opcode byte tells a length of one, two or three bytes (30_encoding.md R64). -/
theorem opcodeLength_cases (op : Byte) : opcodeLength op = 1 ∨ opcodeLength op = 2 ∨ opcodeLength op = 3 := by
  unfold opcodeLength
  split_ifs <;> simp

/-- What the list decoder finds in three bytes is what the opcode byte decodes to with the two bytes after it: those beyond its
length are not read (30_encoding.md R82). -/
theorem decodeOpcode_of_decode {op b1 b2 : Byte} {i : Instr} {rest : List Byte} (h : decode [op, b1, b2] = .ok (i, rest)) :
    decodeOpcode op b1 b2 = i := by
  rcases opcodeLength_cases op with hlen | hlen | hlen <;> simp only [decode, hlen] at h <;> cases h
  · exact decodeOpcode_of_length_one b1 b2 hlen
  · exact decodeOpcode_of_length_two b1 b2 hlen
  · rfl

/-- The encoder writes as many bytes as the opcode byte tells (30_encoding.md R64, R82). -/
theorem encode_length {i : Instr} (h : i.wellFormed = true) : (encode i).length = opcodeLength i.opcode := by
  cases i with
  | unrecognised op => exact Laws.EncodedLength.unrecognised op h
  | _ => rfl

/-- The decode failure of a step names pc and the byte there: the meaning takes the one byte back (60_exceptions.md R188, R189). -/
theorem step_of_fetchInstr_unrecognised {s : State} {op : Byte} (h : s.fetchInstr = .unrecognised op) :
    step s = .fault (.decodeFailure s.pc (s.read s.pc)) := by
  have hop : s.read s.pc = op := by rw [← State.opcode_fetchInstr, h]; rfl
  have hwf : (Instr.unrecognised op).wellFormed = true := h ▸ wellFormed_decodeOpcode _ _ _
  have hlen : opcodeLength op = 1 := (encode_length hwf).symm
  have hpc : s.beginStep.pc - 1 = s.pc := by
    rw [State.beginStep_pc, State.fetchByte_zero, hop, hlen, BitVec.ofNat_eq_ofNat, BitVec.add_sub_cancel]
  rw [step_eq_fault, h, exec_unrecognised, hpc, hop]

/-- Settles O6: the list decoder finds the fetched instruction, whose length is that of its encoding. -/
theorem stepRunsTheDecodedInstruction : Obligations.StepRunsTheDecodedInstruction := by
  intro s i rest hdecode
  have hfetch : s.fetchInstr = i := by
    rw [State.fetchInstr, State.fetchByte_zero]
    exact decodeOpcode_of_decode hdecode
  have hwf : i.wellFormed = true := hfetch ▸ wellFormed_decodeOpcode _ _ _
  have hbegin : s.beginStep = { s with pc := s.pc + BitVec.ofNat 16 (encode i).length, events := [], cost := none } := by
    rw [State.beginStep, State.fetchByte_zero, encode_length hwf, ← hfetch, State.opcode_fetchInstr]
  refine ⟨hwf, ?_, ?_⟩
  · rintro op rfl
    exact step_of_fetchInstr_unrecognised hfetch
  · rw [step, State.fetchByte_zero, hfetch, hbegin]
    rfl

/-! ## Immediate and direct loads and stores -/

/-- A form that writes the listed registers and flags, and leaves memory and the outputs alone, changes nothing else. -/
theorem State.AgreeOutside.keepsAllBut {s t : State} {regs : List Reg} {flags : List FlagName}
    (h : State.AgreeOutside { Writes.nothing with regs := regs, flags := flags } s t) (hstore : t.AgreeOnStore s)
    (hcost : t.cost = s.cost) : KeepsAllBut s t regs flags :=
  ⟨h.reg, h.flag, h.pc rfl, h.sp rfl, h.ie rfl, hstore.mem, h.map, hstore.events, hcost⟩

/-- A register write changes nothing but the register. -/
theorem State.setReg_keepsAllBut (s : State) (r : Reg) (v : Byte) : KeepsAllBut s (s.setReg r v) [r] [] :=
  (s.setReg_agreeOutside r v).keepsAllBut ⟨s.setReg_mem r v, s.setReg_map r v, s.setReg_events r v⟩ (s.setReg_cost r v)

/-- A pair write changes nothing but its two registers (10_state.md R17). -/
theorem State.setPair_keepsAllBut (s : State) (p : Pair) (v : Word) : KeepsAllBut s (s.setPair p v) (pairRegs p) [] :=
  (s.setPair_agreeOutside p v).keepsAllBut ⟨s.setPair_mem p v, s.setPair_map p v, s.setPair_events p v⟩ (s.setPair_cost p v)

/-- A written pair is read back (10_state.md R17). -/
@[simp] theorem State.setPair_pair_same (s : State) (p : Pair) (v : Word) : (s.setPair p v).pair p = v := by
  cases p <;> exact joinBytes_hi8_lo8 v

/-- A written 16-bit operand is read back (10_state.md R18). -/
@[simp] theorem State.setRp_rp_same (s : State) (rp : Rp) (v : Word) : (s.setRp rp v).rp rp = v := by
  cases rp with
  | bc => exact s.setPair_pair_same .bc v
  | de => exact s.setPair_pair_same .de v
  | hl => exact s.setPair_pair_same .hl v
  | sp => rfl

/-- A write of a 16-bit operand that is a pair leaves sp alone (10_state.md R18). -/
theorem State.setRp_sp_of_ne (s : State) {rp : Rp} (v : Word) (h : rp ≠ .sp) : (s.setRp rp v).sp = s.sp := by
  cases rp with
  | bc | de | hl => rfl
  | sp => exact absurd rfl h

/-- A write of a 16-bit operand changes nothing but its registers and sp (10_state.md R18). -/
theorem State.setRp_keepsAllBut (s : State) (rp : Rp) (v : Word) :
    KeepsAllBut s { s.setRp rp v with sp := s.sp } (rpRegs rp) [] := by
  cases rp with
  | bc => exact s.setPair_keepsAllBut .bc v
  | de => exact s.setPair_keepsAllBut .de v
  | hl => exact s.setPair_keepsAllBut .hl v
  | sp => exact (State.AgreeOutside.refl _ s).keepsAllBut (.refl s) rfl

/-- The bytes of MVI r,d8 (30_encoding.md R65, R67). -/
theorem encode_ofMvi (dst : Reg) (v : Byte) : encode (.ofMvi dst v) = [byteOf (0x06 + 8 * regCode dst), v] := by
  cases dst <;> rfl

/-- The bytes of LXI rp,d16 (30_encoding.md R65, R68). -/
theorem encode_ofLxi (rp : Rp) (v : Word) : encode (.ofLxi rp v) = [byteOf (0x01 + 16 * rpCode rp), lo8 v, hi8 v] := by
  cases rp <;> rfl

/-- The meaning of each MVI r,d8. -/
theorem exec_ofMvi (s : State) (dst : Reg) (v : Byte) : exec (.ofMvi dst v) s = .next (s.setReg dst v) := by
  cases dst <;> rfl

/-- The meaning of each LXI rp,d16. -/
theorem exec_ofLxi (s : State) (rp : Rp) (v : Word) : exec (.ofLxi rp v) s = .next (s.setRp rp v) := by
  cases rp <;> rfl

/-- Settles O26: MVI is a register write and LXI a write of a 16-bit operand. -/
theorem loadImmediate : Obligations.LoadImmediate := by
  intro s dst rp lo hi
  refine ⟨encode_ofMvi dst lo, ?_, ⟨_, exec_ofMvi s dst lo, s.setReg_reg_same dst lo, s.setReg_keepsAllBut dst lo⟩,
    ⟨_, exec_ofLxi s rp _, s.setRp_rp_same rp _, s.setRp_keepsAllBut rp _, s.setRp_sp_of_ne _⟩⟩
  rw [encode_ofLxi, lo8_joinBytes, hi8_joinBytes]

/-- The bytes of LHLD a16 (30_encoding.md R65, R68). -/
theorem encode_lhld (addr : Word) : encode (.lhld addr) = [0x2A#8, lo8 addr, hi8 addr] := rfl

/-- The bytes of SHLD a16 (30_encoding.md R65, R68). -/
theorem encode_shld (addr : Word) : encode (.shld addr) = [0x22#8, lo8 addr, hi8 addr] := rfl

/-- The meaning of LHLD (40_data_transfer.md R101). -/
theorem exec_lhld (s : State) (addr : Word) : exec (.lhld addr) s = .next (s.setPair .hl (s.read16 addr)) := rfl

/-- The meaning of SHLD (40_data_transfer.md R102). -/
theorem exec_shld (s : State) (addr : Word) : exec (.shld addr) s = .next (s.write16 addr (s.pair .hl)) := rfl

/-- Settles O29: LHLD writes HL from a two-byte read, and SHLD is a two-byte write of HL. -/
theorem loadAndStoreHlDirect : Obligations.LoadAndStoreHlDirect := by
  intro s lo hi
  obtain ⟨hl, hh⟩ := s.read16_bytes (joinBytes hi lo)
  refine ⟨?_, ?_, ⟨_, exec_lhld s _, hl, hh, s.setPair_keepsAllBut .hl _⟩, ⟨_, exec_shld s _, s.write16_frame _ _, ?_⟩⟩
  · rw [encode_lhld, lo8_joinBytes, hi8_joinBytes]
  · rw [encode_shld, lo8_joinBytes, hi8_joinBytes]
  · exact (s.write16_hl_agrees _).stores (List.pairwise_pair.2 (word_ne_succ _))

end Sys2Proof.Machine
end

section
/-! PROOFS. Encoding (30_encoding.md): the list decoder said once, the two round trips, the twelve unrecognised bytes and how a step
stops on one; then parity, the additions, the subtractions, the comparisons and the restarts. -/

namespace Sys2Proof.Machine

/-! ## The list decoder -/

/-- The opcodes of length 2 (30_encoding.md R64). -/
theorem mem_length2Opcodes {op : Byte} (h : opcodeLength op = 2) : op ∈ length2Opcodes := by
  unfold opcodeLength at h
  split_ifs at h with h2
  · exact List.contains_iff_mem.1 h2
  · cases h
  · cases h

/-- The opcodes of length 3 (30_encoding.md R64). -/
theorem mem_length3Opcodes {op : Byte} (h : opcodeLength op = 3) : op ∈ length3Opcodes := by
  unfold opcodeLength at h
  split_ifs at h with h2 h3
  · cases h
  · exact List.contains_iff_mem.1 h3
  · cases h

/-- With the operand bytes of the opcode present, exactly these are taken (30_encoding.md R82). -/
theorem decode_cons_append {op : Byte} {operands : List Byte} (rest : List Byte)
    (hlen : operands.length + 1 = opcodeLength op) :
    decode (op :: (operands ++ rest)) = .ok (decodeOpcode op (operands.getD 0 0) (operands.getD 1 0), rest) := by
  rcases opcodeLength_cases op with h | h | h
  · obtain rfl : operands = [] := List.length_eq_zero_iff.1 (by omega)
    simp [decode, h]
  · obtain ⟨b1, rfl⟩ := List.length_eq_one_iff.1 (show operands.length = 1 by omega)
    simp [decode, h]
  · obtain ⟨b1, b2, rfl⟩ := List.length_eq_two.1 (show operands.length = 2 by omega)
    simp [decode, h]

/-- With fewer bytes than the opcode tells, an operand is missing (30_encoding.md R82). -/
theorem decode_cons_of_short {op : Byte} {rest : List Byte} (hshort : rest.length + 1 < opcodeLength op) :
    decode (op :: rest) = .error (.missingOperand op) := by
  rcases opcodeLength_cases op with h | h | h
  · omega
  · obtain rfl : rest = [] := List.length_eq_zero_iff.1 (by omega)
    simp [decode, h]
  · match rest with
    | [] => simp [decode, h]
    | [b1] => simp [decode, h]
    | _ :: _ :: _ =>
      simp only [List.length_cons] at hshort
      omega

/-- A list with at least the bytes that an opcode tells starts with that opcode's operand bytes. -/
theorem exists_operands_of_long {op : Byte} {rest : List Byte} (hlong : opcodeLength op ≤ rest.length + 1) :
    ∃ operands, rest = operands ++ rest.drop (opcodeLength op - 1) ∧ operands.length + 1 = opcodeLength op := by
  refine ⟨rest.take (opcodeLength op - 1), (List.take_append_drop _ _).symm, ?_⟩
  have hpos : 1 ≤ opcodeLength op := by rcases opcodeLength_cases op with h | h | h <;> omega
  rw [List.length_take]
  omega

/-- What decodes is an opcode byte with its operand bytes. -/
theorem exists_operands_of_decode {bytes rest : List Byte} {i : Instr} (h : decode bytes = .ok (i, rest)) :
    ∃ op operands, bytes = op :: (operands ++ rest) ∧ operands.length + 1 = opcodeLength op ∧
      i = decodeOpcode op (operands.getD 0 0) (operands.getD 1 0) := by
  cases bytes with
  | nil => cases h
  | cons op tail =>
    rcases Nat.lt_or_ge (tail.length + 1) (opcodeLength op) with hshort | hlong
    · rw [decode_cons_of_short hshort] at h
      cases h
    · obtain ⟨operands, htail, hlen⟩ := exists_operands_of_long hlong
      rw [htail, decode_cons_append _ hlen] at h
      cases h
      exact ⟨op, operands, congrArg (op :: ·) htail, hlen, rfl⟩

/-- Settles O4: the bytes after the opcode split into operand bytes and rest, or are too few. -/
theorem decodeTakesTheLengthOfTheOpcode : Obligations.DecodeTakesTheLengthOfTheOpcode := by
  intro op rest
  refine ⟨fun hlong => ?_, decode_cons_of_short⟩
  obtain ⟨operands, hrest, hlen⟩ := exists_operands_of_long hlong
  refine ⟨_, ?_, opcode_decodeOpcode (operands.getD 0 0) (operands.getD 1 0) op⟩
  calc decode (op :: rest)
      = decode (op :: (operands ++ rest.drop (opcodeLength op - 1))) := by rw [← hrest]
    _ = _ := decode_cons_append _ hlen

/-! ## The round trips -/

/-- An opcode that decodes to a form with a 16-bit operand gets the operand back from its two bytes (30_encoding.md R68). -/
theorem decodeOpcode_lo8_hi8 {op : Byte} {form : Word → Instr} (h : ∀ lo hi, decodeOpcode op lo hi = form (joinBytes hi lo))
    (v : Word) : decodeOpcode op (lo8 v) (hi8 v) = form v := by
  rw [h, joinBytes_hi8_lo8]

/-- The decoder's field layouts agree with the rows of the opcode table, form by form (30_encoding.md R65, R77 to R80). -/
theorem decodeOpcode_operandBytes {i : Instr} (hwf : i.wellFormed = true) :
    decodeOpcode i.opcode (i.operandBytes.getD 0 0) (i.operandBytes.getD 1 0) = i := by
  cases i with
  | unrecognised op => exact decodeOpcode_of_mem_unrecognised _ _ (List.contains_iff_mem.1 hwf)
  | lxiB v | lxiD v | lxiH v | lxiSp v | lda v | sta v | lhld v | shld v | jmp v | jnz v | jz v | jnc v | jc v | jpo v | jpe v
  | jp v | jm v | call v | cnz v | cz v | cnc v | cc v | cpo v | cpe v | cp v | cm v =>
    dsimp only [Instr.opcode]
    exact decodeOpcode_lo8_hi8 (fun _ _ => rfl) v
  | _ =>
    dsimp only [Instr.opcode]
    rfl

/-- Settles O2: the encoding has the bytes that its opcode tells, and the decoder's fields give the instruction back. -/
theorem decodeOfEncodeIsTheInstruction : Obligations.DecodeOfEncodeIsTheInstruction := by
  intro i rest hwf
  have hlen : i.operandBytes.length + 1 = opcodeLength i.opcode := encode_length hwf
  calc decode (encode i ++ rest)
      = .ok (decodeOpcode i.opcode (i.operandBytes.getD 0 0) (i.operandBytes.getD 1 0), rest) := decode_cons_append rest hlen
    _ = .ok (i, rest) := by rw [decodeOpcode_operandBytes hwf]

/-- The operand bytes of what is decoded are the bytes read, as many as the opcode tells (30_encoding.md R67, R68, R82). -/
theorem operandBytes_decodeOpcode {op : Byte} {operands : List Byte} (hlen : operands.length + 1 = opcodeLength op) :
    (decodeOpcode op (operands.getD 0 0) (operands.getD 1 0)).operandBytes = operands := by
  rcases opcodeLength_cases op with h | h | h
  · obtain rfl : operands = [] := List.length_eq_zero_iff.1 (by omega)
    have hone := encode_length (wellFormed_decodeOpcode 0 0 op)
    rw [opcode_decodeOpcode, h] at hone
    exact List.length_eq_zero_iff.1 (Nat.succ.inj hone)
  · obtain ⟨b1, rfl⟩ := List.length_eq_one_iff.1 (show operands.length = 1 by omega)
    have hop := mem_length2Opcodes h
    fin_cases hop <;> rfl
  · obtain ⟨b1, b2, rfl⟩ := List.length_eq_two.1 (show operands.length = 2 by omega)
    have hbytes : [lo8 (joinBytes b2 b1), hi8 (joinBytes b2 b1)] = [b1, b2] := by rw [lo8_joinBytes, hi8_joinBytes]
    have hop := mem_length3Opcodes h
    fin_cases hop <;> exact hbytes

/-- Settles O3: what decodes is an opcode with its operand bytes, and the encoder writes both back. -/
theorem encodeOfDecodeIsTheWord : Obligations.EncodeOfDecodeIsTheWord := by
  intro bytes rest i hdecode
  obtain ⟨op, operands, rfl, hlen, rfl⟩ := exists_operands_of_decode hdecode
  refine ⟨wellFormed_decodeOpcode _ _ op, ?_⟩
  rw [encode, opcode_decodeOpcode, operandBytes_decodeOpcode hlen, List.cons_append]

/-- Settles O1: each word is the encoding of its instruction, so that it decodes as O2 says. -/
theorem decodeReadsWordsOfTheSpec : Obligations.DecodeReadsWordsOfTheSpec := by
  intro rest
  have hdecode (i : Instr) (hwf : i.wellFormed = true) : decode (encode i ++ rest) = .ok (i, rest) :=
    decodeOfEncodeIsTheInstruction i rest hwf
  exact ⟨hdecode .nop rfl, hdecode (.mviA 0x05#8) rfl, hdecode .inrA rfl, hdecode (.call 0x0010#16) rfl,
    hdecode (.lxiH 0x1234#16) rfl, hdecode .movCB rfl, hdecode .hlt rfl, hdecode .sbbM rfl, hdecode .rar rfl,
    hdecode (.jm 0x1234#16) rfl, hdecode .pushPsw rfl, hdecode (.outPort 0x02#8) rfl, hdecode (.unrecognised 0xED#8) rfl⟩

/-! ## The unrecognised bytes -/

/-- Settles O5: an unrecognised instruction that the decoder answers carries the opcode byte and is well formed. -/
theorem unrecognisedAreExactlyTwelveBytes : Obligations.UnrecognisedAreExactlyTwelveBytes := by
  intro op b1 b2 o
  constructor
  · intro h
    have hop : o = op := by rw [← opcode_decodeOpcode b1 b2 op, h]; rfl
    have hwf : (Instr.unrecognised o).wellFormed = true := h ▸ wellFormed_decodeOpcode b1 b2 op
    exact ⟨hop, hop ▸ List.contains_iff_mem.1 hwf⟩
  · rintro ⟨rfl, hmem⟩
    exact decodeOpcode_of_mem_unrecognised b1 b2 hmem

/-- What is fetched is unrecognised exactly when the byte at pc is one of the twelve, and carries that byte (30_encoding.md R81). -/
theorem State.fetchInstr_eq_unrecognised {s : State} {op : Byte} :
    s.fetchInstr = .unrecognised op ↔ op = s.read s.pc ∧ s.read s.pc ∈ unrecognisedOpcodes := by
  rw [State.fetchInstr, State.fetchByte_zero]
  exact unrecognisedAreExactlyTwelveBytes _ _ _ op

/-- A step on one of the twelve bytes is the decode failure at pc (60_exceptions.md R188, R189). -/
theorem step_of_mem_unrecognised {s : State} (h : s.read s.pc ∈ unrecognisedOpcodes) :
    step s = .fault (.decodeFailure s.pc (s.read s.pc)) :=
  step_of_fetchInstr_unrecognised (State.fetchInstr_eq_unrecognised.2 ⟨rfl, h⟩)

/-- A step on any other byte has a next state (60_exceptions.md R192). -/
theorem step_next_of_not_mem_unrecognised {s : State} (h : s.read s.pc ∉ unrecognisedOpcodes) : ∃ t, step s = .next t := by
  rcases exec_next_or_unrecognised s.fetchInstr s.beginStep with ⟨t, ht⟩ | ⟨op, hop⟩
  · exact ⟨_, step_eq_next.2 ⟨t, ht, rfl⟩⟩
  · obtain ⟨-, hmem⟩ := State.fetchInstr_eq_unrecognised.1 hop
    exact absurd hmem h

/-- A step faults exactly on one of the twelve bytes, with pc and the byte. -/
theorem step_eq_fault_iff_mem_unrecognised {s : State} {r : Fault} :
    step s = .fault r ↔ s.read s.pc ∈ unrecognisedOpcodes ∧ r = .decodeFailure s.pc (s.read s.pc) := by
  by_cases h : s.read s.pc ∈ unrecognisedOpcodes
  · simp [step_of_mem_unrecognised h, h, eq_comm]
  · obtain ⟨t, ht⟩ := step_next_of_not_mem_unrecognised h
    simp [ht, h]

/-- The disassembler at pc finds the instruction that a step fetches (30_encoding.md R85). -/
theorem disassemble_pc (s : State) :
    disassemble s.mem s.pc =
      { mnemonic := mnemonicOf s.fetchInstr
        operands := s.fetchInstr.operandBytes
        length := opcodeLength s.fetchInstr.opcode } := by
  rw [State.opcode_fetchInstr, ← State.fetchByte_zero]
  rfl

/-- The disassembler on one of the twelve bytes (30_encoding.md R85). -/
theorem disassemble_of_mem_unrecognised {s : State} (h : s.read s.pc ∈ unrecognisedOpcodes) :
    disassemble s.mem s.pc = { mnemonic := "unknown", operands := [], length := 1 } := by
  have hfetch : s.fetchInstr = .unrecognised (s.read s.pc) := State.fetchInstr_eq_unrecognised.2 ⟨rfl, h⟩
  have hlen : opcodeLength (s.read s.pc) = 1 := (encode_length (i := .unrecognised _) (List.contains_iff_mem.2 h)).symm
  rw [disassemble_pc, State.opcode_fetchInstr, hlen, hfetch]
  rfl

/-- Settles O7: `step_eq_fault_iff_mem_unrecognised`, and the disassembler at such a byte. -/
theorem decodeFailureCarriesAddressAndOpcode : Obligations.DecodeFailureCarriesAddressAndOpcode := by
  intro s r
  refine ⟨step_eq_fault_iff_mem_unrecognised, fun hfault => ?_⟩
  obtain ⟨hmem, -⟩ := step_eq_fault_iff_mem_unrecognised.1 hfault
  exact disassemble_of_mem_unrecognised hmem

/-- Settles O9: the byte at pc decides between a next state and a fault, so that no refusal is left. -/
theorem recognisedOpcodesAlwaysStep : Obligations.RecognisedOpcodesAlwaysStep := by
  intro s
  refine ⟨step_next_of_not_mem_unrecognised, fun h => ⟨_, step_of_mem_unrecognised h⟩, fun r hrefused => ?_⟩
  by_cases h : s.read s.pc ∈ unrecognisedOpcodes
  · rw [step_of_mem_unrecognised h] at hrefused
    cases hrefused
  · obtain ⟨t, ht⟩ := step_next_of_not_mem_unrecognised h
    rw [ht] at hrefused
    cases hrefused

/-- Settles O8: the meaning takes pc back by one, and the driver ends at the fault with the state it stepped. -/
theorem unrecognisedStopsWithStateUnchanged : Obligations.UnrecognisedStopsWithStateUnchanged := by
  refine ⟨exec_unrecognised, fun s rest h => ?_⟩
  rw [drive, step_of_mem_unrecognised h]

/-! ## Parity -/

/-- The 1 bits of a byte, counted by position (00_scope.md R8). -/
theorem popcount_eq_length_filter (v : Byte) : popcount v = ((List.range 8).filter fun k => v.getLsbD k).length := by
  have hrange : List.range 8 = [0, 1, 2, 3, 4, 5, 6, 7] := rfl
  simp only [hrange, popcount, ← List.countP_eq_length_filter, List.countP_cons, List.countP_nil, Bool.toNat, Bool.cond_eq_ite]
  omega

/-- Settles O21: parity looks at the remainder of the count by 2. -/
theorem parityIsEvenPopulationCount : Obligations.ParityIsEvenPopulationCount := by
  intro v
  rw [← popcount_eq_length_filter, Nat.even_iff, parity, beq_iff_eq]

/-! ## Addition, subtraction and comparison -/

/-- An ALU operation on a register has no operand byte (30_encoding.md R64). -/
theorem operandBytes_ofAlu (op : AluOp) (src : Reg) : (Instr.ofAlu op src).operandBytes = [] := by
  cases op <;> cases src <;> rfl

/-- The bytes of an ALU operation on a register (30_encoding.md R65). -/
theorem encode_ofAlu (op : AluOp) (src : Reg) : encode (.ofAlu op src) = [byteOf (0x80 + 8 * aluCode op + regCode src)] := by
  rw [encode, opcode_ofAlu, operandBytes_ofAlu]

/-- The meaning of each ALU operation on M (30_encoding.md R66, R70). -/
theorem exec_ofAluM (s : State) (op : AluOp) : exec (.ofAluM op) s = .next (s.alu op (s.read (joinBytes s.h s.l))) := by
  cases op <;> rfl

/-- The meaning of each ALU operation on an immediate (30_encoding.md R70). -/
theorem exec_ofAluImm (s : State) (op : AluOp) (v : Byte) : exec (.ofAluImm op v) s = .next (s.alu op v) := by
  cases op <;> rfl

/-- An operation that sets A and the flags from AddOp adds (30_encoding.md R88, R89). -/
theorem AddsToA.of_exec {i : Instr} {s : State} {v : Byte} {cin : Bool} (h : exec i s = .next (s.setAcc (addOp s.a v cin))) :
    AddsToA i s v cin :=
  ⟨_, h, rfl, addOp_value _ _ _, addOp_cy _ _ _, addOp_ac _ _ _, addOp_zspOf _ _ _⟩

/-- Settles O30: on each operand form ADD is AddOp without and ADC with the carry. -/
theorem additionFamily : Obligations.AdditionFamily := by
  intro s src d8
  exact ⟨encode_ofAlu .add src, rfl, rfl, encode_ofAlu .adc src, rfl, rfl,
    .of_exec (exec_ofAlu s .add src), .of_exec (exec_ofAluM s .add), .of_exec (exec_ofAluImm s .add d8),
    .of_exec (exec_ofAlu s .adc src), .of_exec (exec_ofAluM s .adc), .of_exec (exec_ofAluImm s .adc d8)⟩

/-- The flags of SubOp are those of the difference (30_encoding.md R90). -/
theorem subOp_borrowFlags (s : State) (v : Byte) (bin : Bool) :
    BorrowFlags s v bin (subOp s.a v bin).value (subOp s.a v bin).flags :=
  ⟨subOp_value _ _ _, subOp_cy _ _ _, subOp_ac _ _ _, subOp_zspOf _ _ _⟩

/-- An operation that sets A and the flags from SubOp subtracts (30_encoding.md R90). -/
theorem SubtractsFromA.of_exec {i : Instr} {s : State} {v : Byte} {bin : Bool}
    (h : exec i s = .next (s.setAcc (subOp s.a v bin))) : SubtractsFromA i s v bin :=
  ⟨_, h, rfl, subOp_borrowFlags s v bin⟩

/-- Settles O31: on each operand form SUB is SubOp without and SBB with the borrow. -/
theorem subtractionFamily : Obligations.SubtractionFamily := by
  intro s src d8
  exact ⟨encode_ofAlu .sub src, rfl, rfl, encode_ofAlu .sbb src, rfl, rfl,
    .of_exec (exec_ofAlu s .sub src), .of_exec (exec_ofAluM s .sub), .of_exec (exec_ofAluImm s .sub d8),
    .of_exec (exec_ofAlu s .sbb src), .of_exec (exec_ofAluM s .sbb), .of_exec (exec_ofAluImm s .sbb d8)⟩

/-- An operation that sets the flags alone from SubOp compares (42_logical.md R134). -/
theorem ComparesWithA.of_exec {i : Instr} {s : State} {v : Byte} (h : exec i s = .next (s.alu .cmp v)) : ComparesWithA i s v :=
  ⟨_, _, h, rfl, subOp_borrowFlags s v false⟩

/-- Settles O39: each operand form of the comparison drops the difference. -/
theorem compareFamily : Obligations.CompareFamily := by
  intro s src d8
  exact ⟨encode_ofAlu .cmp src, rfl, rfl,
    .of_exec (exec_ofAlu s .cmp src), .of_exec (exec_ofAluM s .cmp), .of_exec (exec_ofAluImm s .cmp d8)⟩

/-! ## Restarts -/

/-- The bytes of RST n (30_encoding.md R65, R71). -/
theorem encode_ofRst (n : Fin 8) : encode (.ofRst n) = [byteOf (0xC7 + 8 * n.val)] := by
  fin_cases n <;> rfl

/-- A restart touches nothing but pc and what its push touches (44_stack_control.md R172). -/
theorem State.restart_frame (s : State) (n : Fin 8) :
    s.restart n =
      { s with pc := (s.restart n).pc, sp := s.sp - 2, mem := (s.restart n).mem, events := (s.restart n).events } :=
  congrArg (fun t : State => { t with pc := restartAddr n }) (s.push_frame s.pc)

/-- Settles O46: a restart pushes pc and goes to its address. -/
theorem restartCallsEightTimesN : Obligations.RestartCallsEightTimesN := by
  intro s n
  refine ⟨encode_ofRst n, _, exec_ofRst s n, ?_, s.restart_frame n, s.restart_stores n⟩
  rw [State.restart_pc, restartAddr_toNat]

end Sys2Proof.Machine
end

section
/-! PROOFS. Data transfer (40_data_transfer.md): the moves, and the loads and stores of A. -/

namespace Sys2Proof.Machine

/-! ## The two shapes of a data transfer -/

/-- A meaning that is one register write changes nothing else (40_data_transfer.md R93, R94, R99, R103). -/
theorem exists_next_of_exec_setReg {i : Instr} {s : State} {r : Reg} {v : Byte} (h : exec i s = .next (s.setReg r v)) :
    ∃ t, exec i s = .next t ∧ t.reg r = v ∧ KeepsAllBut s t [r] [] :=
  ⟨_, h, s.setReg_reg_same r v, s.setReg_keepsAllBut r v⟩

/-- A meaning that is one guarded write changes nothing but that byte and the event list (40_data_transfer.md R95, R97, R100, R104). -/
theorem exists_next_of_exec_write {i : Instr} {s : State} {addr : Word} {v : Byte} (h : exec i s = .next (s.write addr v)) :
    ∃ t, exec i s = .next t ∧ t = { s with mem := t.mem, events := t.events } ∧ StoresBytes s t [(addr, v)] :=
  ⟨_, h, s.write_frame addr v, s.write_stores addr v⟩

/-! ## MOV and MVI M -/

/-- A MOV between registers has no operand byte (30_encoding.md R64). -/
theorem operandBytes_ofMov (dst src : Reg) : (Instr.ofMov dst src).operandBytes = [] := by
  cases dst <;> cases src <;> rfl

/-- The bytes of MOV r1,r2 (30_encoding.md R65). -/
theorem encode_ofMov (dst src : Reg) : encode (.ofMov dst src) = [byteOf (0x40 + 8 * regCode dst + regCode src)] := by
  rw [encode, opcode_ofMov, operandBytes_ofMov]

/-- The bytes of MOV r,M (30_encoding.md R65). -/
theorem encode_ofMovFromM (dst : Reg) : encode (.ofMovFromM dst) = [byteOf (0x46 + 8 * regCode dst)] := by
  cases dst <;> rfl

/-- The bytes of MOV M,r (30_encoding.md R65). -/
theorem encode_ofMovToM (src : Reg) : encode (.ofMovToM src) = [byteOf (0x70 + regCode src)] := by
  cases src <;> rfl

/-- The meaning of each MOV r,M (30_encoding.md R66). -/
theorem exec_ofMovFromM (s : State) (dst : Reg) :
    exec (.ofMovFromM dst) s = .next (s.setReg dst (s.read (joinBytes s.h s.l))) := by
  cases dst <;> rfl

/-- The meaning of each MOV M,r (30_encoding.md R66). -/
theorem exec_ofMovToM (s : State) (src : Reg) :
    exec (.ofMovToM src) s = .next (s.write (joinBytes s.h s.l) (s.reg src)) := by
  cases src <;> rfl

/-- The meaning of MVI M,d8 (30_encoding.md R66). -/
theorem exec_mviM (s : State) (v : Byte) : exec (.mviM v) s = .next (s.write (joinBytes s.h s.l) v) := rfl

/-- Settles O23: the meaning is a write of the destination with the source's value. -/
theorem movBetweenRegisters : Obligations.MovBetweenRegisters := by
  intro s dst src
  exact ⟨encode_ofMov dst src, exists_next_of_exec_setReg (exec_ofMov s dst src)⟩

/-- Settles O24: the byte is read at HL before the destination is written. -/
theorem movRegisterFromMemory : Obligations.MovRegisterFromMemory := by
  intro s dst
  exact ⟨encode_ofMovFromM dst, exists_next_of_exec_setReg (exec_ofMovFromM s dst)⟩

/-- Settles O25: both meanings are one guarded write at HL. -/
theorem storeAtHl : Obligations.StoreAtHl := by
  intro s src d8
  exact ⟨encode_ofMovToM src, rfl, exists_next_of_exec_write (exec_ofMovToM s src), exists_next_of_exec_write (exec_mviM s d8)⟩

/-! ## LDA, LDAX, STA and STAX -/

/-- The bytes of LDA a16 (30_encoding.md R65, R68). -/
theorem encode_lda (addr : Word) : encode (.lda addr) = [0x3A#8, lo8 addr, hi8 addr] := rfl

/-- The bytes of STA a16 (30_encoding.md R65, R68). -/
theorem encode_sta (addr : Word) : encode (.sta addr) = [0x32#8, lo8 addr, hi8 addr] := rfl

/-- The bytes of LDAX rp (30_encoding.md R65). -/
theorem encode_ofLdax (q : IndirPair) : encode (.ofLdax q) = [byteOf (0x0A + 16 * indirCode q)] := by
  cases q <;> rfl

/-- The bytes of STAX rp (30_encoding.md R65). -/
theorem encode_ofStax (q : IndirPair) : encode (.ofStax q) = [byteOf (0x02 + 16 * indirCode q)] := by
  cases q <;> rfl

/-- The meaning of LDA (40_data_transfer.md R99). -/
theorem exec_lda (s : State) (addr : Word) : exec (.lda addr) s = .next (s.setReg .a (s.read addr)) := rfl

/-- The meaning of STA (40_data_transfer.md R100). -/
theorem exec_sta (s : State) (addr : Word) : exec (.sta addr) s = .next (s.write addr s.a) := rfl

/-- The meaning of each LDAX (40_data_transfer.md R103). -/
theorem exec_ofLdax (s : State) (q : IndirPair) : exec (.ofLdax q) s = .next (s.setReg .a (s.read (s.indirAddr q))) := by
  cases q <;> rfl

/-- The meaning of each STAX (40_data_transfer.md R104). -/
theorem exec_ofStax (s : State) (q : IndirPair) : exec (.ofStax q) s = .next (s.write (s.indirAddr q) s.a) := by
  cases q <;> rfl

/-- Settles O27: both meanings write A with the byte at their address. -/
theorem loadAccumulator : Obligations.LoadAccumulator := by
  intro s lo hi q
  refine ⟨?_, encode_ofLdax q, exists_next_of_exec_setReg (exec_lda s _), ?_⟩
  · rw [encode_lda, lo8_joinBytes, hi8_joinBytes]
  · obtain ⟨t, hexec, ha, hkeeps⟩ := exists_next_of_exec_setReg (exec_ofLdax s q)
    refine ⟨t, hexec, hkeeps, ?_⟩
    cases q with
    | bc | de => exact ha

/-- Settles O28: both meanings are one guarded write of A at their address. -/
theorem storeAccumulator : Obligations.StoreAccumulator := by
  intro s lo hi q
  refine ⟨?_, encode_ofStax q, exists_next_of_exec_write (exec_sta s _), ?_⟩
  · rw [encode_sta, lo8_joinBytes, hi8_joinBytes]
  · cases q with
    | bc => exact exists_next_of_exec_write (exec_ofStax s .bc)
    | de => exact exists_next_of_exec_write (exec_ofStax s .de)

end Sys2Proof.Machine
end

section
/-! PROOFS. Arithmetic (41_arithmetic.md): increments and decrements of a register, of M and of a pair, the pair addition, and the
decimal adjust with what it does after an addition of BCD digits. -/

namespace Sys2Proof.Machine

/-! ## Increment and decrement of a byte -/

/-- The flags of INR on a byte (41_arithmetic.md R117, decisions D3 and D16). -/
theorem incOp_incFlags (s : State) (v : Byte) : IncFlags s v (incOp v s.f).value (incOp v s.f).flags := by
  have hvalue : (incOp v s.f).value.toNat = (v.toNat + 1) % 256 := addOp_value v 1 false
  have hac : (incOp v s.f).flags.ac = true ↔ 16 ≤ v.toNat % 16 + 1 := addOp_ac v 1 false
  refine ⟨hvalue, incOp_cy v s.f, ?_, addOp_zspOf v 1 false⟩
  rw [hac, hvalue]
  omega

/-- The flags of DCR on a byte (41_arithmetic.md R119, decisions D4 and D16). -/
theorem decOp_decFlags (s : State) (v : Byte) : DecFlags s v (decOp v s.f).value (decOp v s.f).flags := by
  have hvalue : ((decOp v s.f).value.toNat : Int) = ((v.toNat : Int) - 1 - 0) % 256 := subOp_value v 1 false
  have hac : (decOp v s.f).flags.ac = true ↔ 1 ≤ v.toNat % 16 := subOp_ac v 1 false
  refine ⟨by omega, decOp_cy v s.f, ?_, subOp_zspOf v 1 false⟩
  rw [hac]
  omega

/-! ## INR r and DCR r -/

/-- The bytes of INR r (30_encoding.md R65). -/
theorem encode_ofInr (r : Reg) : encode (.ofInr r) = [byteOf (0x04 + 8 * regCode r)] := by
  cases r <;> rfl

/-- The bytes of DCR r (30_encoding.md R65). -/
theorem encode_ofDcr (r : Reg) : encode (.ofDcr r) = [byteOf (0x05 + 8 * regCode r)] := by
  cases r <;> rfl

/-- The meaning of each INR r (41_arithmetic.md R117). -/
theorem exec_ofInr (s : State) (r : Reg) : exec (.ofInr r) s = .next (s.incReg r) := by
  cases r <;> rfl

/-- The meaning of each DCR r (41_arithmetic.md R119). -/
theorem exec_ofDcr (s : State) (r : Reg) : exec (.ofDcr r) s = .next (s.decReg r) := by
  cases r <;> rfl

/-- A write of the flags that keeps cy, and then of a register, changes nothing else. -/
theorem State.setFlags_setReg_keepsAllBut (s : State) {f : Flags} (hcy : f.cy = s.f.cy) (r : Reg) (v : Byte) :
    KeepsAllBut s ({ s with f := f }.setReg r v) [r] [.ac, .p, .z, .s] :=
  have hagree := (s.setFlags_agreeOutside_of_cy hcy).trans (State.setReg_agreeOutside _ r v)
  hagree.keepsAllBut ⟨State.setReg_mem _ r v, State.setReg_map _ r v, State.setReg_events _ r v⟩ (State.setReg_cost _ r v)

/-- INR r leaves the register and the flags as INR of its byte gives them (41_arithmetic.md R117). -/
theorem State.incReg_incFlags (s : State) (r : Reg) : IncFlags s (s.reg r) ((s.incReg r).reg r) (s.incReg r).f := by
  rw [State.incReg, State.setReg_reg_same, State.setReg_f]
  exact incOp_incFlags s (s.reg r)

/-- DCR r leaves the register and the flags as DCR of its byte gives them (41_arithmetic.md R119). -/
theorem State.decReg_decFlags (s : State) (r : Reg) : DecFlags s (s.reg r) ((s.decReg r).reg r) (s.decReg r).f := by
  rw [State.decReg, State.setReg_reg_same, State.setReg_f]
  exact decOp_decFlags s (s.reg r)

/-- Settles O32: both meanings write the flags without cy, and then the register. -/
theorem incrementDecrementRegister : Obligations.IncrementDecrementRegister := by
  intro s r
  exact ⟨encode_ofInr r, encode_ofDcr r,
    ⟨_, exec_ofInr s r, s.incReg_incFlags r, s.setFlags_setReg_keepsAllBut (incOp_cy _ s.f) r _⟩,
    ⟨_, exec_ofDcr s r, s.decReg_decFlags r, s.setFlags_setReg_keepsAllBut (decOp_cy _ s.f) r _⟩⟩

/-! ## INR M and DCR M -/

/-- The meaning of INR M (41_arithmetic.md R118). -/
theorem exec_inrM (s : State) : exec .inrM s = .next s.incM := rfl

/-- The meaning of DCR M (41_arithmetic.md R120). -/
theorem exec_dcrM (s : State) : exec .dcrM s = .next s.decM := rfl

/-- A write of the flags and then of M touches nothing but the flags, memory and the event list. -/
theorem State.setFlags_writeM_frame {s t : State} {f : Flags} {v : Byte} (h : t = { s with f := f }.writeM v) :
    t = { s with f := t.f, mem := t.mem, events := t.events } := by
  subst h
  rw [State.writeM, State.write_f]
  exact State.write_frame _ _ _

/-- A write of the flags and then of M stores one byte at HL (41_arithmetic.md R118, R120). -/
theorem State.setFlags_writeM_stores (s : State) (f : Flags) (v : Byte) :
    StoresBytes s ({ s with f := f }.writeM v) [(joinBytes s.h s.l, v)] :=
  (s.setFlags_writeM_agrees f v).stores (List.pairwise_singleton _ _)

/-- INR M writes the flags of INR of the byte at HL, whatever the guard does (41_arithmetic.md R118). -/
theorem State.incM_f (s : State) : s.incM.f = (incOp s.readM s.f).flags := State.write_f _ _ _

/-- DCR M writes the flags of DCR of the byte at HL, whatever the guard does (41_arithmetic.md R120). -/
theorem State.decM_f (s : State) : s.decM.f = (decOp s.readM s.f).flags := State.write_f _ _ _

/-- Settles O33: both meanings write the flags, and then M through the guard, which leaves the flags alone. -/
theorem incrementDecrementMemory : Obligations.IncrementDecrementMemory := by
  intro s
  refine ⟨rfl, rfl, ⟨_, _, exec_inrM s, State.setFlags_writeM_frame rfl, ?_, s.setFlags_writeM_stores _ _⟩,
    ⟨_, _, exec_dcrM s, State.setFlags_writeM_frame rfl, ?_, s.setFlags_writeM_stores _ _⟩⟩
  · rw [State.incM_f]
    exact incOp_incFlags s s.readM
  · rw [State.decM_f]
    exact decOp_decFlags s s.readM

/-! ## INX and DCX -/

/-- The bytes of INX rp (30_encoding.md R65). -/
theorem encode_ofInx (rp : Rp) : encode (.ofInx rp) = [byteOf (0x03 + 16 * rpCode rp)] := by
  cases rp <;> rfl

/-- The bytes of DCX rp (30_encoding.md R65). -/
theorem encode_ofDcx (rp : Rp) : encode (.ofDcx rp) = [byteOf (0x0B + 16 * rpCode rp)] := by
  cases rp <;> rfl

/-- The meaning of each INX (41_arithmetic.md R121). -/
theorem exec_ofInx (s : State) (rp : Rp) : exec (.ofInx rp) s = .next (s.setRp rp (s.rp rp + 1)) := by
  cases rp <;> rfl

/-- The meaning of each DCX (41_arithmetic.md R122). -/
theorem exec_ofDcx (s : State) (rp : Rp) : exec (.ofDcx rp) s = .next (s.setRp rp (s.rp rp - 1)) := by
  cases rp <;> rfl

/-- Settles O34: both meanings are one write of the 16-bit operand, with its value plus or minus 1. -/
theorem incrementDecrementPair : Obligations.IncrementDecrementPair := by
  intro s rp
  refine ⟨encode_ofInx rp, encode_ofDcx rp,
    ⟨_, exec_ofInx s rp, ?_, s.setRp_keepsAllBut rp _, s.setRp_sp_of_ne _⟩,
    ⟨_, exec_ofDcx s rp, ?_, s.setRp_keepsAllBut rp _, s.setRp_sp_of_ne _⟩⟩
  · rw [State.setRp_rp_same, BitVec.toNat_add]
    rfl
  · rw [State.setRp_rp_same]
    bv_omega

/-! ## DAD -/

/-- The bytes of DAD rp (30_encoding.md R65). -/
theorem encode_ofDad (rp : Rp) : encode (.ofDad rp) = [byteOf (0x09 + 16 * rpCode rp)] := by
  cases rp <;> rfl

/-- The meaning of each DAD (41_arithmetic.md R123). -/
theorem exec_ofDad (s : State) (rp : Rp) : exec (.ofDad rp) s = .next (s.dad rp) := by
  cases rp <;> rfl

/-- HL after DAD (41_arithmetic.md R123). -/
theorem State.dad_pair_hl (s : State) (rp : Rp) : (s.dad rp).pair .hl = dadSum (s.pair .hl) (s.rp rp) :=
  State.setPair_pair_same _ .hl _

/-- DAD changes nothing but HL and cy (41_arithmetic.md R123, decision D16). -/
theorem State.dad_keepsAllBut (s : State) (rp : Rp) : KeepsAllBut s (s.dad rp) [.h, .l] [.cy] :=
  (s.dad_agreeOutside rp).keepsAllBut ⟨rfl, rfl, rfl⟩ rfl

/-- Settles O35: DAD writes the sum to HL and its carry to cy. -/
theorem pairAddition : Obligations.PairAddition := by
  intro s rp
  refine ⟨encode_ofDad rp, _, exec_ofDad s rp, s.dad_keepsAllBut rp, ?_, dadCarry_iff _ _⟩
  calc ((s.dad rp).pair .hl).toNat
      = (dadSum (s.pair .hl) (s.rp rp)).toNat := by rw [State.dad_pair_hl]
    _ = ((s.pair .hl).toNat + (s.rp rp).toNat) % 65536 := dadSum_toNat _ _

/-! ## DAA, one correction at a time -/

/-- Whether DAA corrects the low digit (41_arithmetic.md R124). -/
def daaFixLow (a : Byte) (f : Flags) : Bool := decide (lowNibble a > 9) || f.ac

/-- The byte after step 1 of DAA (41_arithmetic.md R124). -/
def daaLow (a : Byte) (f : Flags) : Byte := if daaFixLow a f then BitVec.ofNat 8 (a.toNat + 6) else a

/-- Whether DAA corrects the high digit of the byte after step 1 (41_arithmetic.md R124). -/
def daaFixHigh (a : Byte) (f : Flags) : Bool := decide ((daaLow a f >>> 4).toNat > 9) || f.cy

/-- DAA's result is the byte after step 1, corrected in step 2. -/
theorem daaOp_value (a : Byte) (f : Flags) :
    (daaOp a f).value = if daaFixHigh a f then BitVec.ofNat 8 ((daaLow a f).toNat + 0x60) else daaLow a f := rfl

/-- DAA keeps cy unless step 2 runs. -/
theorem daaOp_cy (a : Byte) (f : Flags) :
    (daaOp a f).flags.cy = if daaFixHigh a f then decide ((daaLow a f).toNat + 0x60 > 0xFF) else f.cy := rfl

/-- DAA's auxiliary carry is that of step 1. -/
theorem daaOp_ac (a : Byte) (f : Flags) : (daaOp a f).flags.ac = (daaFixLow a f && decide (lowNibble a + 6 > 0x0F)) := rfl

/-- z, s and p of DAA are those of its result. -/
theorem daaOp_zspOf (a : Byte) (f : Flags) : ZspOf (daaOp a f).value (daaOp a f).flags := setZsp_zspOf _ _

/-- The low digit is corrected when it is over 9 or ac is set. -/
theorem daaFixLow_iff (a : Byte) (f : Flags) : daaFixLow a f = true ↔ 9 < a.toNat % 16 ∨ f.ac = true := by
  simp [daaFixLow, lowNibble_eq]

/-- The byte after step 1 as a number. -/
theorem daaLow_toNat (a : Byte) (f : Flags) :
    (daaLow a f).toNat = if daaFixLow a f then (a.toNat + 6) % 256 else a.toNat := by
  rw [daaLow, apply_ite BitVec.toNat, BitVec.toNat_ofNat]

/-- The high digit is corrected when it is over 9 after step 1 or cy is set. -/
theorem daaFixHigh_iff (a : Byte) (f : Flags) : daaFixHigh a f = true ↔ 9 < (daaLow a f).toNat / 16 ∨ f.cy = true := by
  simp [daaFixHigh, Nat.shiftRight_eq_div_pow]

/-- DAA's result as a number. -/
theorem daaOp_value_toNat (a : Byte) (f : Flags) :
    (daaOp a f).value.toNat = if daaFixHigh a f then ((daaLow a f).toNat + 96) % 256 else (daaLow a f).toNat := by
  rw [daaOp_value, apply_ite BitVec.toNat, BitVec.toNat_ofNat]

/-- DAA's carry as a number. -/
theorem daaOp_cy_iff (a : Byte) (f : Flags) :
    (daaOp a f).flags.cy = true ↔ if daaFixHigh a f then 256 ≤ (daaLow a f).toNat + 96 else f.cy = true := by
  rw [daaOp_cy]
  split
  · exact decide_eq_true_iff
  · rfl

/-- DAA's auxiliary carry as a number. -/
theorem daaOp_ac_iff (a : Byte) (f : Flags) : (daaOp a f).flags.ac = true ↔ daaFixLow a f = true ∧ 16 ≤ a.toNat % 16 + 6 := by
  rw [daaOp_ac, Bool.and_eq_true, decide_eq_true_iff, lowNibble_eq]
  rfl

/-- The meaning of DAA (41_arithmetic.md R124). -/
theorem exec_daa (s : State) : exec .daa s = .next (s.setAcc (daaOp s.a s.f)) := rfl

/-- Settles O36: the two corrections are `daaFixLow` and `daaFixHigh`, and the byte between them is `daaLow`. -/
theorem decimalAdjust : Obligations.DecimalAdjust := by
  intro s
  exact ⟨rfl, _, daaFixLow s.a s.f, daaFixHigh s.a s.f, (daaLow s.a s.f).toNat, exec_daa s, rfl, daaFixLow_iff _ _,
    daaLow_toNat _ _, daaOp_ac_iff _ _, daaFixHigh_iff _ _, daaOp_value_toNat _ _, daaOp_cy_iff _ _, daaOp_zspOf _ _⟩

/-! ## DAA after an addition of BCD digits -/

/-- The two BCD digits of a number below 100, as a byte. -/
def bcdByte (n : Nat) : Byte := byteOf (n / 10 * 16 + n % 10)

/-- Two BCD digits as a number. -/
theorem bcdByte_toNat {n : Nat} (h : n < 100) : (bcdByte n).toNat = n / 10 * 16 + n % 10 := by
  rw [bcdByte, BitVec.toNat_ofNat]
  omega

/-- The result of adding two BCD bytes as bytes (30_encoding.md R88). -/
def bcdSum (x y : Nat) : AluResult := addOp (bcdByte x) (bcdByte y) false

section
variable {x y : Nat} (hsum : x + y < 100)
include hsum

/-- The sum of two BCD bytes, added digit by digit: it fits in a byte. -/
theorem bcdSum_value : (bcdSum x y).value.toNat = (x / 10 + y / 10) * 16 + (x % 10 + y % 10) := by
  rw [bcdSum, addOp_value, bcdByte_toNat (by omega), bcdByte_toNat (by omega), Bool.toNat_false]
  omega

/-- The sum of two BCD bytes has no carry. -/
theorem bcdSum_cy : (bcdSum x y).flags.cy = false := by
  rw [← Bool.not_eq_true, bcdSum, addOp_cy, bcdByte_toNat (by omega), bcdByte_toNat (by omega), Bool.toNat_false]
  omega

/-- The sum of two BCD bytes has an auxiliary carry when the low digits make 16 or more. -/
theorem bcdSum_ac : (bcdSum x y).flags.ac = true ↔ 16 ≤ x % 10 + y % 10 := by
  rw [bcdSum, addOp_ac, bcdByte_toNat (by omega), bcdByte_toNat (by omega), Bool.toNat_false]
  omega

/-- DAA corrects the low digit exactly when the decimal digits carry. -/
theorem daaFixLow_bcdSum : daaFixLow (bcdSum x y).value (bcdSum x y).flags = true ↔ 10 ≤ x % 10 + y % 10 := by
  rw [daaFixLow_iff, bcdSum_ac hsum, bcdSum_value hsum]
  omega

/-- Step 1 of DAA already gives the BCD digits of the sum: the 6 takes the decimal carry into the high digit. -/
theorem daaLow_bcdSum : daaLow (bcdSum x y).value (bcdSum x y).flags = bcdByte (x + y) := by
  apply BitVec.eq_of_toNat_eq
  rw [daaLow_toNat, bcdSum_value hsum, bcdByte_toNat hsum]
  simp only [daaFixLow_bcdSum hsum]
  split_ifs <;> omega

/-- Step 2 of DAA does not run: the high digit of the sum is at most 9. -/
theorem daaFixHigh_bcdSum : daaFixHigh (bcdSum x y).value (bcdSum x y).flags = false := by
  rw [← Bool.not_eq_true, daaFixHigh_iff, daaLow_bcdSum hsum, bcdByte_toNat hsum, bcdSum_cy hsum]
  simp only [Bool.false_eq_true, or_false]
  omega

/-- DAA turns the sum of two BCD bytes into the BCD digits of the sum. -/
theorem daaOp_bcdSum_value : (daaOp (bcdSum x y).value (bcdSum x y).flags).value = bcdByte (x + y) := by
  rw [daaOp_value, daaFixHigh_bcdSum hsum]
  exact daaLow_bcdSum hsum

/-- DAA leaves no carry after the sum of two BCD bytes. -/
theorem daaOp_bcdSum_cy : (daaOp (bcdSum x y).value (bcdSum x y).flags).flags.cy = false := by
  rw [daaOp_cy, daaFixHigh_bcdSum hsum]
  exact bcdSum_cy hsum

end

/-- The meaning of ADD B, then DAA (41_arithmetic.md R105, R124). -/
theorem execAll_addB_daa (s : State) :
    execAll [.addB, .daa] s =
      .next ((s.alu .add s.b).setAcc (daaOp (addOp s.a s.b false).value (addOp s.a s.b false).flags)) := rfl

/-- Settles O37: ADD adds digit by digit, step 1 of DAA carries between the decimal digits, and step 2 does not run. -/
theorem decimalAdjustAfterBcdAddition : Obligations.DecimalAdjustAfterBcdAddition := by
  intro s x y hsum ha hb
  have hexec : execAll [.addB, .daa] s =
      .next ((s.alu .add s.b).setAcc (daaOp (bcdSum x y).value (bcdSum x y).flags)) := by
    rw [execAll_addB_daa, ha, hb]
    rfl
  exact ⟨_, hexec, daaOp_bcdSum_value hsum, daaOp_bcdSum_cy hsum⟩

end Sys2Proof.Machine
end

section
/-! PROOFS. Logic (42_logical.md): the logic operations, complement and carry, and what restores the state when it is repeated: the
rotates (43_rotate.md), the complement and the exchange. -/

namespace Sys2Proof.Machine

/-! ## AND, exclusive OR and OR -/

/-- An operation that sets A and the flags from LogicOp puts its byte into A (30_encoding.md R91). -/
theorem LogicResultInA.of_exec {i : Instr} {s : State} {v : Byte} (h : exec i s = .next (s.setAcc (logicOp v))) :
    LogicResultInA i s v :=
  ⟨_, h, rfl, logicFlags_spec v⟩

/-- Settles O38: each operand form is LogicOp of the bitwise result. -/
theorem logicFamily : Obligations.LogicFamily := by
  intro s src d8
  exact ⟨encode_ofAlu .ana src, rfl, rfl, encode_ofAlu .xra src, rfl, rfl, encode_ofAlu .ora src, rfl, rfl,
    .of_exec (exec_ofAlu s .ana src), .of_exec (exec_ofAluM s .ana), .of_exec (exec_ofAluImm s .ana d8),
    .of_exec (exec_ofAlu s .xra src), .of_exec (exec_ofAluM s .xra), .of_exec (exec_ofAluImm s .xra d8),
    .of_exec (exec_ofAlu s .ora src), .of_exec (exec_ofAluM s .ora), .of_exec (exec_ofAluImm s .ora d8)⟩

/-! ## CMA, STC, CMC and SPHL -/

/-- The meaning of CMA (42_logical.md R137). -/
theorem exec_cma (s : State) : exec .cma s = .next (s.setReg .a (~~~s.a)) := rfl

/-- The meaning of STC (42_logical.md R138). -/
theorem exec_stc (s : State) : exec .stc s = .next { s with f := { s.f with cy := true } } := rfl

/-- The meaning of CMC (42_logical.md R139). -/
theorem exec_cmc (s : State) : exec .cmc s = .next { s with f := { s.f with cy := !s.f.cy } } := rfl

/-- The meaning of SPHL (44_stack_control.md R179). -/
theorem exec_sphl (s : State) : exec .sphl s = .next { s with sp := joinBytes s.h s.l } := rfl

/-- A write of cy changes nothing else. -/
theorem State.setCy_keepsAllBut (s : State) (cy : Bool) : KeepsAllBut s { s with f := { s.f with cy := cy } } [] [.cy] :=
  (s.setCy_agreeOutside cy).keepsAllBut ⟨rfl, rfl, rfl⟩ rfl

/-- Settles O40: CMA writes A, STC and CMC write cy, and SPHL writes sp. -/
theorem complementCarryAndSphl : Obligations.ComplementCarryAndSphl := by
  intro s
  exact ⟨rfl, rfl, rfl, rfl,
    ⟨_, exec_cma s, BitVec.toNat_not, s.setReg_keepsAllBut .a _⟩,
    ⟨_, exec_stc s, rfl, s.setCy_keepsAllBut _⟩,
    ⟨_, exec_cmc s, rfl, s.setCy_keepsAllBut _⟩,
    exec_sphl s⟩

/-! ## An instruction repeated -/

/-- An instruction that always answers a next state, `n` times over, answers the `n`-th iterate. -/
theorem execAll_replicate {i : Instr} {g : State → State} (h : ∀ s, exec i s = .next (g s)) (n : Nat) (s : State) :
    execAll (List.replicate n i) s = .next (g^[n] s) := by
  induction n generalizing s with
  | zero => rfl
  | succ n ih =>
    rw [List.replicate_succ, execAll, h, Function.iterate_succ_apply]
    exact ih (g s)

/-- An instruction that undoes itself, twice, restores the state. -/
theorem execAll_twice_of_involutive {i : Instr} {g : State → State} (h : ∀ s, exec i s = .next (g s))
    (hg : Function.Involutive g) (s : State) : execAll [i, i] s = .next s := by
  have htwice : execAll [i, i] s = .next (g^[2] s) := execAll_replicate h 2 s
  rw [htwice]
  exact congrArg _ (hg s)

/-- The complement of A is undone by another. -/
theorem State.complementA_involutive : Function.Involutive fun s : State => s.setReg .a (~~~s.a) := fun s =>
  congrArg (s.setReg .a) BitVec.not_not

/-- An exchange of DE and HL is undone by another. -/
theorem State.xchg_involutive : Function.Involutive State.xchg := fun _ => rfl

/-- The meaning of XCHG (44_stack_control.md R180). -/
theorem exec_xchg (s : State) : exec .xchg s = .next s.xchg := rfl

/-! ## A rotation by one place, repeated -/

/-- Two rotations to the left add up. -/
theorem rotateLeft_rotateLeft {w : Nat} (x : BitVec w) (m n : Nat) :
    (x.rotateLeft m).rotateLeft n = x.rotateLeft (m + n) :=
  BitVec.eq_of_getMsbD_eq fun k hk => by
    have hround : (n + k) % w < w := Nat.mod_lt _ (by omega)
    simp only [BitVec.getMsbD_rotateLeft, hk, hround, decide_true, Bool.true_and, Nat.add_mod_mod, Nat.add_assoc]

/-- A rotation by no place changes nothing. -/
theorem rotateLeft_zero {w : Nat} (x : BitVec w) : x.rotateLeft 0 = x :=
  BitVec.eq_of_getMsbD_eq fun k hk => by
    rw [BitVec.getMsbD_rotateLeft, decide_eq_true hk, Bool.true_and, Nat.zero_add, Nat.mod_eq_of_lt hk]

/-- A rotation by the width comes all the way round. -/
theorem rotateLeft_width {w : Nat} (x : BitVec w) : x.rotateLeft w = x := by
  rw [← BitVec.rotateLeft_mod_eq_rotateLeft, Nat.mod_self, rotateLeft_zero]

/-- Rotations by one place add up to a rotation by their number. -/
theorem iterate_rotateLeft_one {w : Nat} (n : Nat) (x : BitVec w) : (·.rotateLeft 1)^[n] x = x.rotateLeft n := by
  induction n with
  | zero => exact (rotateLeft_zero x).symm
  | succ n ih => rw [Function.iterate_succ_apply', ih, rotateLeft_rotateLeft]

/-- As many rotations to the left by one place as there are bits restore a bit vector. -/
theorem isFixedPt_iterate_rotateLeft_one {w : Nat} (x : BitVec w) : Function.IsFixedPt (·.rotateLeft 1)^[w] x := by
  rw [Function.IsFixedPt, iterate_rotateLeft_one, rotateLeft_width]

/-- A rotation to the right undoes the rotation to the left by as many places. -/
theorem rotateRight_rotateLeft (w n : Nat) : Function.LeftInverse (·.rotateRight n) fun x : BitVec w => x.rotateLeft n := by
  intro x
  refine BitVec.eq_of_getMsbD_eq fun k hk => ?_
  have hn : n % w < w := Nat.mod_lt _ (by omega)
  beta_reduce
  rw [← BitVec.rotateLeft_mod_eq_rotateLeft, BitVec.getMsbD_rotateRight, decide_eq_true hk, Bool.true_and]
  split_ifs with hwrap
  · have hsrc : w + k - n % w < w := by omega
    have hback : n % w + (w + k - n % w) = w + k := by omega
    rw [Nat.mod_eq_of_lt hsrc, BitVec.getMsbD_rotateLeft, decide_eq_true hsrc, Bool.true_and, hback, Nat.add_mod_left,
      Nat.mod_eq_of_lt hk]
  · have hsrc : k - n % w < w := by omega
    have hback : n % w + (k - n % w) = k := by omega
    rw [BitVec.getMsbD_rotateLeft, decide_eq_true hsrc, Bool.true_and, hback, Nat.mod_eq_of_lt hk]

/-- As many rotations to the right by one place as there are bits restore a bit vector. -/
theorem isFixedPt_iterate_rotateRight_one {w : Nat} (x : BitVec w) : Function.IsFixedPt (·.rotateRight 1)^[w] x :=
  (isFixedPt_iterate_rotateLeft_one x).to_leftInverse ((rotateRight_rotateLeft w 1).iterate w)

/-! ## A and the carry, as the rotates change them -/

/-- A and CY: all of a state that a rotate reads or writes (43_rotate.md R140 to R143). -/
def State.accCarry (s : State) : RotateResult := { value := s.a, cy := s.f.cy }

/-- RLC on A and CY. -/
def RotateResult.rlc (r : RotateResult) : RotateResult := rlcOp r.value

/-- RRC on A and CY. -/
def RotateResult.rrc (r : RotateResult) : RotateResult := rrcOp r.value

/-- RAL on A and CY. -/
def RotateResult.ral (r : RotateResult) : RotateResult := ralOp r.value r.cy

/-- RAR on A and CY. -/
def RotateResult.rar (r : RotateResult) : RotateResult := rarOp r.value r.cy

/-- The meaning of RLC (43_rotate.md R140). -/
theorem exec_rlc (s : State) : exec .rlc s = .next (s.rotateA s.accCarry.rlc) := rfl

/-- The meaning of RRC (43_rotate.md R141). -/
theorem exec_rrc (s : State) : exec .rrc s = .next (s.rotateA s.accCarry.rrc) := rfl

/-- The meaning of RAL (43_rotate.md R142). -/
theorem exec_ral (s : State) : exec .ral s = .next (s.rotateA s.accCarry.ral) := rfl

/-- The meaning of RAR (43_rotate.md R143). -/
theorem exec_rar (s : State) : exec .rar s = .next (s.rotateA s.accCarry.rar) := rfl

/-- A rotate `n` times over changes A and CY by the `n`-th iterate, and nothing else. -/
theorem execAll_replicate_rotate {i : Instr} {g : RotateResult → RotateResult}
    (h : ∀ s, exec i s = .next (s.rotateA (g s.accCarry))) (n : Nat) (s : State) :
    execAll (List.replicate n i) s = .next (s.rotateA (g^[n] s.accCarry)) := by
  rw [execAll_replicate h]
  congr 1
  induction n with
  | zero => rfl
  | succ n ih =>
    rw [Function.iterate_succ_apply', Function.iterate_succ_apply', ih]
    rfl

/-! ## Eight rotates of A alone -/

/-- RLC rotates the eight bits of A to the left (43_rotate.md R140). -/
theorem RotateResult.rlc_value : Function.Semiconj RotateResult.value RotateResult.rlc (·.rotateLeft 1) := by
  suffices h : ∀ a : Byte, (rlcOp a).value = a.rotateLeft 1 from fun r => h r.value
  decide

/-- RRC rotates the eight bits of A to the right (43_rotate.md R141). -/
theorem RotateResult.rrc_value : Function.Semiconj RotateResult.value RotateResult.rrc (·.rotateRight 1) := by
  suffices h : ∀ a : Byte, (rrcOp a).value = a.rotateRight 1 from fun r => h r.value
  decide

/-- The bit that RLC rotates out is bit 0 of its result (43_rotate.md R140). -/
theorem RotateResult.rlc_cy (r : RotateResult) : r.rlc.cy = r.rlc.value.getLsbD 0 := by
  suffices h : ∀ a : Byte, (rlcOp a).cy = (rlcOp a).value.getLsbD 0 from h r.value
  decide

/-- The bit that RRC rotates out is bit 7 of its result (43_rotate.md R141). -/
theorem RotateResult.rrc_cy (r : RotateResult) : r.rrc.cy = r.rrc.value.getLsbD 7 := by
  suffices h : ∀ a : Byte, (rrcOp a).cy = (rrcOp a).value.getLsbD 7 from h r.value
  decide

/-- Eight RLCs restore A and leave its bit 0 in CY. -/
theorem RotateResult.iterate_rlc_eight (r : RotateResult) : rlc^[8] r = { value := r.value, cy := r.value.getLsbD 0 } := by
  have hvalue : (rlc^[8] r).value = r.value := (rlc_value.iterate_right 8 r).trans (isFixedPt_iterate_rotateLeft_one r.value)
  have hcy : (rlc^[8] r).cy = (rlc^[8] r).value.getLsbD 0 := rlc_cy (rlc^[7] r)
  exact congrArg₂ RotateResult.mk hvalue (hvalue ▸ hcy)

/-- Eight RRCs restore A and leave its bit 7 in CY. -/
theorem RotateResult.iterate_rrc_eight (r : RotateResult) : rrc^[8] r = { value := r.value, cy := r.value.getLsbD 7 } := by
  have hvalue : (rrc^[8] r).value = r.value := (rrc_value.iterate_right 8 r).trans (isFixedPt_iterate_rotateRight_one r.value)
  have hcy : (rrc^[8] r).cy = (rrc^[8] r).value.getLsbD 7 := rrc_cy (rrc^[7] r)
  exact congrArg₂ RotateResult.mk hvalue (hvalue ▸ hcy)

/-! ## Nine rotates of A and the carry -/

/-- The nine bits `cy:a` that RAL and RAR rotate (43_rotate.md R142, R143). -/
def RotateResult.bits (r : RotateResult) : BitVec 9 := r.value.cons r.cy

/-- A and CY are the nine bits of `cy:a`. -/
theorem RotateResult.bits_injective : Function.Injective RotateResult.bits := by
  intro r r' h
  have hvalue : r.value = r'.value := by simpa [bits] using congrArg (BitVec.setWidth 8) h
  have hcy : r.cy = r'.cy := by simpa [bits] using congrArg BitVec.msb h
  exact congrArg₂ RotateResult.mk hvalue hcy

/-- RAL rotates the nine bits of `cy:a` to the left (43_rotate.md R142). -/
theorem RotateResult.ral_bits : Function.Semiconj RotateResult.bits RotateResult.ral (·.rotateLeft 1) := by
  suffices h : ∀ a cy, (ralOp a cy).bits = (RotateResult.mk a cy).bits.rotateLeft 1 from fun r => h r.value r.cy
  decide

/-- RAR rotates the nine bits of `cy:a` to the right (43_rotate.md R143). -/
theorem RotateResult.rar_bits : Function.Semiconj RotateResult.bits RotateResult.rar (·.rotateRight 1) := by
  suffices h : ∀ a cy, (rarOp a cy).bits = (RotateResult.mk a cy).bits.rotateRight 1 from fun r => h r.value r.cy
  decide

/-- Nine RALs restore A and CY. -/
theorem RotateResult.iterate_ral_nine (r : RotateResult) : ral^[9] r = r :=
  bits_injective ((ral_bits.iterate_right 9 r).trans (isFixedPt_iterate_rotateLeft_one r.bits))

/-- Nine RARs restore A and CY. -/
theorem RotateResult.iterate_rar_nine (r : RotateResult) : rar^[9] r = r :=
  bits_injective ((rar_bits.iterate_right 9 r).trans (isFixedPt_iterate_rotateRight_one r.bits))

/-- Settles O42: the rotates go all the way round the eight bits of A, or the nine of A and CY; the complement and the exchange are
involutions. -/
theorem repeatedOperationsRestore : Obligations.RepeatedOperationsRestore := by
  intro s
  refine ⟨?_, ?_, ?_, ?_, execAll_twice_of_involutive exec_cma State.complementA_involutive s,
    execAll_twice_of_involutive exec_xchg State.xchg_involutive s⟩
  · rw [execAll_replicate_rotate exec_rlc, RotateResult.iterate_rlc_eight]
    rfl
  · rw [execAll_replicate_rotate exec_rrc, RotateResult.iterate_rrc_eight]
    rfl
  · rw [execAll_replicate_rotate exec_ral, RotateResult.iterate_ral_nine]
    rfl
  · rw [execAll_replicate_rotate exec_rar, RotateResult.iterate_rar_nine]
    rfl

end Sys2Proof.Machine
end

section
/-! PROOFS. Rotates (43_rotate.md): each of the four, bit by bit. -/

namespace Sys2Proof.Machine

/-! ## The bits of a rotated accumulator

RLC is RAL, and RRC is RAR, with the bit rotated out in place of the old carry: what holds of the rotates through a carry, whichever bit
enters, holds of all four. -/

/-- The bit that enters a rotate to the left enters at bit 0. -/
theorem ralOp_value_getLsbD_zero (a : Byte) (c : Bool) : (ralOp a c).value.getLsbD 0 = c := by
  simp [ralOp]

/-- A rotate to the left moves every other bit one place up. -/
theorem ralOp_value_getLsbD_succ (a : Byte) (c : Bool) {k : Nat} (hk : k < 7) :
    (ralOp a c).value.getLsbD (k + 1) = a.getLsbD k := by
  have hfrom : k < 8 := by omega
  have hto : k + 1 < 8 := by omega
  simp [ralOp, hfrom, hto]

/-- The bit that enters a rotate to the right enters at bit 7. -/
theorem rarOp_value_getLsbD_seven (a : Byte) (c : Bool) : (rarOp a c).value.getLsbD 7 = c := by
  simp [rarOp]

/-- A rotate to the right moves every other bit one place down. -/
theorem rarOp_value_getLsbD (a : Byte) (c : Bool) {k : Nat} (hk : k < 7) :
    (rarOp a c).value.getLsbD k = a.getLsbD (k + 1) := by
  simp [rarOp, hk, Nat.add_comm 1 k]

/-! ## A rotate of the state -/

/-- A rotate changes A and cy only (43_rotate.md R140 to R143, decision D16). -/
theorem State.rotateA_keepsAllBut (s : State) (r : RotateResult) : KeepsAllBut s (s.rotateA r) [.a] [.cy] :=
  (s.rotateA_agreeOutside r).keepsAllBut ⟨rfl, rfl, rfl⟩ rfl

/-- An instruction that rotates A to the left, the bit `c` entering (43_rotate.md R140, R142). -/
theorem rotatesLeft_of_exec {i : Instr} {s : State} {c : Bool} (h : exec i s = .next (s.rotateA (ralOp s.a c))) :
    ∃ t, exec i s = .next t ∧ KeepsAllBut s t [.a] [.cy] ∧ t.f.cy = s.a.getLsbD 7 ∧
      t.a.getLsbD 0 = c ∧ ∀ k, k < 7 → t.a.getLsbD (k + 1) = s.a.getLsbD k :=
  ⟨_, h, s.rotateA_keepsAllBut _, rfl, ralOp_value_getLsbD_zero s.a c, fun _ hk => ralOp_value_getLsbD_succ s.a c hk⟩

/-- An instruction that rotates A to the right, the bit `c` entering (43_rotate.md R141, R143). -/
theorem rotatesRight_of_exec {i : Instr} {s : State} {c : Bool} (h : exec i s = .next (s.rotateA (rarOp s.a c))) :
    ∃ t, exec i s = .next t ∧ KeepsAllBut s t [.a] [.cy] ∧ t.f.cy = s.a.getLsbD 0 ∧
      t.a.getLsbD 7 = c ∧ ∀ k, k < 7 → t.a.getLsbD k = s.a.getLsbD (k + 1) :=
  ⟨_, h, s.rotateA_keepsAllBut _, rfl, rarOp_value_getLsbD_seven s.a c, fun _ hk => rarOp_value_getLsbD s.a c hk⟩

/-- Settles O41: the bit that enters is the one rotated out for RLC and RRC, and the old carry for RAL and RAR. -/
theorem rotateFamily : Obligations.RotateFamily := by
  intro s
  exact ⟨rfl, rfl, rfl, rfl, rotatesLeft_of_exec (exec_rlc s), rotatesRight_of_exec (exec_rrc s),
    rotatesLeft_of_exec (exec_ral s), rotatesRight_of_exec (exec_rar s)⟩

end Sys2Proof.Machine
end

section
/-! PROOFS. Stack and control (44_stack_control.md): jumps, calls and returns with their conditions, PUSH and POP, the two exchanges,
and a return that comes back after a call. -/

namespace Sys2Proof.Machine

/-! ## Calls and returns -/

/-- The meaning of CALL (44_stack_control.md R154). -/
theorem exec_call (s : State) (target : Word) : exec (.call target) s = .next (s.call target) := rfl

/-- The meaning of RET (44_stack_control.md R163). -/
theorem exec_ret (s : State) : exec .ret s = .next s.popPc := rfl

/-- A return reads pc at sp and moves sp past it (44_stack_control.md R163). -/
theorem State.popPc_eq (s : State) :
    s.popPc = { s with pc := joinBytes (s.read (s.sp + 1)) (s.read s.sp), sp := s.sp + 2 } := rfl

/-- A call touches nothing but pc and what its push touches (44_stack_control.md R154). -/
theorem State.call_frame (s : State) (target : Word) :
    s.call target =
      { s with pc := target, sp := s.sp - 2, mem := (s.call target).mem, events := (s.call target).events } :=
  congrArg (fun t : State => t.jump target) (s.push_frame s.pc)

/-- A call stores the two bytes of pc (44_stack_control.md R154). -/
theorem State.call_stores (s : State) (target : Word) : StoresBytes s (s.call target) (pushedBytes s s.pc) :=
  (s.call_agrees target).stores (pushedBytes_pairwise s s.pc)

/-- A return undoes a call whose two stack bytes are in RAM, but for those two bytes (44_stack_control.md R154, R163). -/
theorem State.popPc_call {s : State} (hm : s.mem.wf = true) (target : Word) (hlo : InRam s.map (s.sp - 2))
    (hhi : InRam s.map (s.sp - 1)) : (s.call target).popPc = { s with mem := (s.call target).mem } := by
  have htop : (s.call target).top = s.pc := State.push_top hm s.pc hlo hhi
  have hevents : (s.call target).events = s.events := State.push_events_in_ram s.pc hlo hhi
  simp [State.popPc, State.dropTop, htop, hevents]

/-- Settles O51: CALL, then RET, is a call undone by a return. -/
theorem returnComesBackAfterCall : Obligations.ReturnComesBackAfterCall := by
  intro s target hm hlo hhi
  have hexec : execAll [.call target, .ret] s = .next (s.call target).popPc := by
    simp only [execAll, exec_call, exec_ret]
  exact ⟨_, hexec, State.popPc_call hm target hlo hhi⟩

/-! ## The three families with conditions -/

/-- The bytes of JMP a16 (30_encoding.md R65, R68). -/
theorem encode_jmp (target : Word) : encode (.jmp target) = [0xC3#8, lo8 target, hi8 target] := rfl

/-- The bytes of each conditional jump (30_encoding.md R65, R69). -/
theorem encode_ofJump (cond : Cond) (target : Word) :
    encode (.ofJump cond target) = [byteOf (0xC2 + 8 * condCode cond), lo8 target, hi8 target] := by
  cases cond <;> rfl

/-- The bytes of CALL a16 (30_encoding.md R65, R68). -/
theorem encode_call (target : Word) : encode (.call target) = [0xCD#8, lo8 target, hi8 target] := rfl

/-- The bytes of each conditional call (30_encoding.md R65, R69). -/
theorem encode_ofCall (cond : Cond) (target : Word) :
    encode (.ofCall cond target) = [byteOf (0xC4 + 8 * condCode cond), lo8 target, hi8 target] := by
  cases cond <;> rfl

/-- The bytes of each conditional return (30_encoding.md R65, R69). -/
theorem encode_ofRet (cond : Cond) : encode (.ofRet cond) = [byteOf (0xC0 + 8 * condCode cond)] := by
  cases cond <;> rfl

/-- The meaning of JMP (44_stack_control.md R145). -/
theorem exec_jmp (s : State) (target : Word) : exec (.jmp target) s = .next { s with pc := target } := rfl

/-- Settles O43: a conditional jump is a jump when its condition holds and no operation otherwise. -/
theorem jumpFamily : Obligations.JumpFamily := by
  intro s cond lo hi
  refine ⟨?_, ?_, exec_jmp s _, fun htaken => ?_, fun hnot => ?_⟩
  · rw [encode_jmp, lo8_joinBytes, hi8_joinBytes]
  · rw [encode_ofJump, lo8_joinBytes, hi8_joinBytes]
  · rw [exec_ofJump, State.jumpIf_eq, if_pos htaken, State.jump]
  · rw [exec_ofJump, State.jumpIf_eq, if_neg hnot]

/-- A meaning that is one call changes nothing but pc, sp, its two stack bytes and the event list (44_stack_control.md R154). -/
theorem exists_next_of_exec_call {i : Instr} {s : State} {target : Word} (h : exec i s = .next (s.call target)) :
    ∃ t, exec i s = .next t ∧ t = { s with pc := target, sp := s.sp - 2, mem := t.mem, events := t.events } ∧
      StoresBytes s t [(s.sp - 2, lo8 s.pc), (s.sp - 1, hi8 s.pc)] :=
  ⟨_, h, s.call_frame target, s.call_stores target⟩

/-- Settles O44: a conditional call is a call when its condition holds and no operation otherwise. -/
theorem callFamily : Obligations.CallFamily := by
  intro s cond lo hi
  refine ⟨?_, ?_, exists_next_of_exec_call (exec_call s _), fun htaken => exists_next_of_exec_call ?_, fun hnot => ?_⟩
  · rw [encode_call, lo8_joinBytes, hi8_joinBytes]
  · rw [encode_ofCall, lo8_joinBytes, hi8_joinBytes]
  · rw [exec_ofCall, State.callIf_eq, if_pos htaken]
  · rw [exec_ofCall, State.callIf_eq, if_neg hnot]

/-- Settles O45: a conditional return is a return when its condition holds and no operation otherwise. -/
theorem returnFamily : Obligations.ReturnFamily := by
  intro s cond
  refine ⟨rfl, encode_ofRet cond, ?_, fun htaken => ?_, fun hnot => ?_⟩
  · rw [exec_ret, State.popPc_eq]
  · rw [exec_ofRet, State.retIf_eq, if_pos htaken, State.popPc_eq]
  · rw [exec_ofRet, State.retIf_eq, if_neg hnot]

/-! ## PCHL, XCHG and XTHL -/

/-- The meaning of PCHL (44_stack_control.md R173). -/
theorem exec_pchl (s : State) : exec .pchl s = .next { s with pc := joinBytes s.h s.l } := rfl

/-- The meaning of XTHL (44_stack_control.md R178). -/
theorem exec_xthl (s : State) : exec .xthl s = .next s.xthl := rfl

/-- Settles O47: PCHL is a jump to HL, and XCHG writes the four registers at once. -/
theorem pchlAndXchg : Obligations.PchlAndXchg := by
  intro s
  exact ⟨rfl, rfl, exec_pchl s, exec_xchg s⟩

/-- XTHL touches nothing but H, L, memory and the event list (44_stack_control.md R178). -/
theorem State.xthl_frame (s : State) :
    s.xthl = { s with h := s.xthl.h, l := s.xthl.l, mem := s.xthl.mem, events := s.xthl.events } := by
  simp [State.xthl]

/-- Settles O50: H and L are read from the state before the two writes, which are the listed stores of XTHL. -/
theorem exchangeTopOfStackWithHl : Obligations.ExchangeTopOfStackWithHl := by
  intro s
  exact ⟨rfl, _, exec_xthl s, rfl, rfl, s.xthl_frame, exec_stores (exec_xthl s)⟩

/-! ## PUSH and POP -/

/-- A meaning that is one push changes nothing but sp, its two stack bytes and the event list (44_stack_control.md R144). -/
theorem exists_next_of_exec_push {i : Instr} {s : State} {v : Word} (h : exec i s = .next (s.push v)) :
    ∃ t, exec i s = .next t ∧ t = { s with sp := s.sp - 2, mem := t.mem, events := t.events } ∧
      StoresBytes s t [(s.sp - 2, lo8 v), (s.sp - 1, hi8 v)] :=
  ⟨_, h, s.push_frame v, s.push_stores v⟩

/-- The bytes of PUSH rp (30_encoding.md R65). -/
theorem encode_ofPush (p : Pair) : encode (.ofPush p) = [byteOf (0xC5 + 16 * pairCode p)] := by
  cases p <;> rfl

/-- The bytes of POP rp (30_encoding.md R65). -/
theorem encode_ofPop (p : Pair) : encode (.ofPop p) = [byteOf (0xC1 + 16 * pairCode p)] := by
  cases p <;> rfl

/-- The meaning of each PUSH rp (44_stack_control.md R174). -/
theorem exec_ofPush (s : State) (p : Pair) : exec (.ofPush p) s = .next (s.push (s.pair p)) := by
  cases p <;> rfl

/-- The meaning of each POP rp (44_stack_control.md R176). -/
theorem exec_ofPop (s : State) (p : Pair) : exec (.ofPop p) s = .next (s.popPair p) := by
  cases p <;> rfl

/-- POP rp is a write of the pair with the top of the stack, but for sp (44_stack_control.md R176). -/
theorem State.popPair_eq (s : State) (p : Pair) : s.popPair p = { s.setPair p s.top with sp := s.sp + 2 } := by
  cases p <;> rfl

/-- POP rp touches nothing but its pair and sp (44_stack_control.md R176). -/
theorem State.popPair_keepsAllBut (s : State) (p : Pair) :
    KeepsAllBut s { s.popPair p with sp := s.sp } (pairRegs p) [] := by
  rw [State.popPair_eq, ← s.setPair_sp p s.top]
  exact s.setPair_keepsAllBut p s.top

/-- Settles O48: PUSH rp is a push of the pair, and POP rp writes the pair with the top of the stack. -/
theorem pushAndPopPair : Obligations.PushAndPopPair := by
  intro s p
  exact ⟨encode_ofPush p, encode_ofPop p, exists_next_of_exec_push (exec_ofPush s p),
    _, exec_ofPop s p, State.setPair_pair_same _ p s.top, State.setPair_sp _ p s.top, s.popPair_keepsAllBut p⟩

/-- The meaning of PUSH PSW (44_stack_control.md R175, decision D7). -/
theorem exec_pushPsw (s : State) : exec .pushPsw s = .next (s.push (joinBytes s.a (packPsw s.f))) := rfl

/-- The meaning of POP PSW (44_stack_control.md R177). -/
theorem exec_popPsw (s : State) : exec .popPsw s = .next s.popPsw := rfl

/-- POP PSW takes A from the high byte on top of the stack and the flags from the low one (44_stack_control.md R177). -/
theorem State.popPsw_eq (s : State) :
    s.popPsw = { s with sp := s.sp + 2, a := s.read (s.sp + 1), f := unpackPsw (s.read s.sp) } := by
  obtain ⟨hlo, hhi⟩ := s.read16_bytes s.sp
  rw [State.popPsw, State.top, hlo, hhi, State.dropTop]

/-- Settles O49: PUSH PSW is a push of A and the status word, and POP PSW takes its two bytes apart. -/
theorem pushAndPopStatusWord : Obligations.PushAndPopStatusWord := by
  intro s
  refine ⟨rfl, rfl, ?_, ?_⟩
  · have hpush := exists_next_of_exec_push (exec_pushPsw s)
    rwa [lo8_joinBytes, hi8_joinBytes] at hpush
  · rw [exec_popPsw, State.popPsw_eq]

end Sys2Proof.Machine
end

section
/-! PROOFS. Flow and interrupts (45_flow_interrupt.md): the interrupt latch, and the instructions that only advance pc, in the meaning
and in a whole step. -/

namespace Sys2Proof.Machine

/-! ## The interrupt latch -/

/-- The meaning of EI (45_flow_interrupt.md R181, decision D14). -/
theorem exec_ei (s : State) : exec .ei s = .next { s with ie := true } := rfl

/-- The meaning of DI (45_flow_interrupt.md R182). -/
theorem exec_di (s : State) : exec .di s = .next { s with ie := false } := rfl

/-- Settles O53: each of the two meanings is one write of the latch. -/
theorem enableAndDisableInterrupts : Obligations.EnableAndDisableInterrupts := by
  intro s
  exact ⟨rfl, rfl, exec_ei s, exec_di s⟩

/-! ## HLT, IN, OUT and NOP -/

/-- The meaning of HLT (45_flow_interrupt.md R183). -/
theorem exec_hlt (s : State) : exec .hlt s = .next s := rfl

/-- The meaning of IN (45_flow_interrupt.md R184). -/
theorem exec_inPort (port : Byte) (s : State) : exec (.inPort port) s = .next s := rfl

/-- The meaning of OUT (45_flow_interrupt.md R185). -/
theorem exec_outPort (port : Byte) (s : State) : exec (.outPort port) s = .next s := rfl

/-- The meaning of NOP (45_flow_interrupt.md R186). -/
theorem exec_nop (s : State) : exec .nop s = .next s := rfl

/-- What is fetched, from the byte at pc (30_encoding.md R74, R75). -/
theorem State.fetchInstr_of_read {s : State} {op : Byte} (h : s.read s.pc = op) :
    s.fetchInstr = decodeOpcode op (s.fetchByte 1) (s.fetchByte 2) := by
  rw [State.fetchInstr, State.fetchByte_zero, h]

/-- A step on an instruction whose meaning leaves every state as it is advances pc past it and sets the outputs (30_encoding.md R72,
R76). -/
theorem step_of_exec_self {s : State} {i : Instr} (hi : s.fetchInstr = i) (hself : ∀ t, exec i t = .next t) :
    step s = .next { s with
      pc := s.pc + BitVec.ofNat 16 (opcodeLength i.opcode), events := [], cost := some (Config.cycles (s.read s.pc)) } := by
  rw [step_eq_next, hi]
  refine ⟨s.beginStep, hself _, ?_⟩
  rw [← State.beginStep_pc_of_fetchInstr hi, ← State.fetchByte_zero]
  rfl

/-- Settles O54: each of the four meanings leaves every state as it is, so that `step_of_exec_self` says what its step does. -/
theorem hltInOutNopOnlyAdvancePc : Obligations.HltInOutNopOnlyAdvancePc := by
  intro s port
  refine ⟨rfl, rfl, rfl, rfl, exec_hlt s, exec_inPort port s, exec_outPort port s, exec_nop s, ?_, ?_⟩
  -- `(_ :)`: each step is elaborated on its own, so that the length of its opcode is a number when it meets the goal
  · rintro (hop | hop)
    · have hi : s.fetchInstr = .hlt := State.fetchInstr_of_read hop
      exact (step_of_exec_self hi exec_hlt :)
    · have hi : s.fetchInstr = .nop := State.fetchInstr_of_read hop
      exact (step_of_exec_self hi exec_nop :)
  · rintro (hop | hop)
    · have hi : s.fetchInstr = .inPort (s.fetchByte 1) := State.fetchInstr_of_read hop
      exact (step_of_exec_self hi (exec_inPort _) :)
    · have hi : s.fetchInstr = .outPort (s.fetchByte 1) := State.fetchInstr_of_read hop
      exact (step_of_exec_self hi (exec_outPort _) :)

end Sys2Proof.Machine
end

section
/-! PROOFS. Exceptions and the host interface (60_exceptions.md): what a step reports and completes, the host's interrupt, and the
invariant along every run of the driver. -/

namespace Sys2Proof.Machine

/-! ## pc under another partition -/

/-- Where a conditional jump goes depends on the flags and pc alone (44_stack_control.md R146). -/
theorem State.jumpIf_pc_setMap (s : State) (m : MemoryMap) (cond : Cond) (target : Word) :
    ({ s with map := m }.jumpIf cond target).pc = (s.jumpIf cond target).pc := by
  rw [State.jumpIf_pc, State.jumpIf_pc]

/-- Where a conditional call goes depends on the flags and pc alone (44_stack_control.md R155). -/
theorem State.callIf_pc_setMap (s : State) (m : MemoryMap) (cond : Cond) (target : Word) :
    ({ s with map := m }.callIf cond target).pc = (s.callIf cond target).pc := by
  rw [State.callIf_pc, State.callIf_pc]

/-- Where a conditional return goes depends on the flags, pc and the top of the stack alone, and reading is not guarded
(44_stack_control.md R164, 20_memory.md R41). -/
theorem State.retIf_pc_setMap (s : State) (m : MemoryMap) (cond : Cond) :
    ({ s with map := m }.retIf cond).pc = (s.retIf cond).pc := by
  rw [State.retIf_pc, State.retIf_pc]
  rfl

/-- What holds of the pc of two computed states holds of the pc of the states answered. -/
theorem pc_eq_of_next {s s' t t' : State} (h : (.next s : Result) = .next t) (h' : (.next s' : Result) = .next t')
    (hpc : s'.pc = s.pc) : t'.pc = t.pc := by
  cases h
  cases h'
  exact hpc

/-- Every meaning leaves the same pc under another partition: no write comes before what decides it (60_exceptions.md R191). -/
theorem exec_pc_setMap {i : Instr} {s t t' : State} {m : MemoryMap} (h : exec i s = .next t)
    (h' : exec i { s with map := m } = .next t') : t'.pc = t.pc := by
  cases i with
  | jmp | call | pchl | ret | rst0 | rst1 | rst2 | rst3 | rst4 | rst5 | rst6 | rst7 => exact pc_eq_of_next h h' rfl
  | jnz target | jz target | jnc target | jc target | jpo target | jpe target | jp target | jm target =>
    exact pc_eq_of_next h h' (s.jumpIf_pc_setMap m _ target)
  | cnz target | cz target | cnc target | cc target | cpo target | cpe target | cp target | cm target =>
    exact pc_eq_of_next h h' (s.callIf_pc_setMap m _ target)
  | rnz | rz | rnc | rc | rpo | rpe | rp | rm => exact pc_eq_of_next h h' (s.retIf_pc_setMap m _)
  | _ =>
    -- no transfer of control: pc is as before the meaning in both states
    exact ((exec_agreeOutside h').pc rfl).trans ((exec_agreeOutside h).pc rfl).symm

/-- A step leaves the same pc under another partition: fetching reads memory and pc only (60_exceptions.md R191). -/
theorem step_pc_setMap {s t t' : State} {m : MemoryMap} (h : step s = .next t) (h' : step { s with map := m } = .next t') :
    t'.pc = t.pc := by
  obtain ⟨u, hu, rfl⟩ := step_eq_next.1 h
  obtain ⟨u', hu', rfl⟩ := step_eq_next.1 h'
  have hexec : exec s.fetchInstr { s.beginStep with map := m } = .next u' := hu'
  have hpc : u'.pc = u.pc := exec_pc_setMap hu hexec
  exact hpc

/-! ## What a step reports -/

/-- A step performs the stores that its instruction lists, from the empty event list (20_memory.md R50, R56). -/
theorem step_stores {s t : State} (h : step s = .next t) : StoresBytes s.beginStep t (storesOf s.beginStep s.fetchInstr) := by
  obtain ⟨u, hexec, rfl⟩ := step_eq_next.1 h
  exact (exec_stores hexec).congr rfl rfl rfl rfl rfl

/-- A step reports the rejected stores of its instruction, in order (60_exceptions.md R191). -/
theorem step_events {s t : State} (h : step s = .next t) :
    t.events = (storesOf s.beginStep s.fetchInstr).filterMap (rejectionOf s.map) := by
  obtain ⟨-, -, hevents⟩ := step_stores h
  exact hevents

/-- A step costs what the table says of its opcode byte (30_encoding.md R76). -/
theorem step_cost {s t : State} (h : step s = .next t) : t.cost = some (Config.cycles (s.read s.pc)) := by
  obtain ⟨u, -, rfl⟩ := step_eq_next.1 h
  rw [State.fetchByte_zero]

/-- Settles O60: the byte at pc is recognised, so that there is a next state, and it reports the listed stores that the
guard rejects. -/
theorem stepReportsRejectedWritesAndCompletes : Obligations.StepReportsRejectedWritesAndCompletes := by
  intro s hrec
  obtain ⟨t, hstep⟩ := step_next_of_not_mem_unrecognised hrec
  exact ⟨t, hstep, step_cost hstep, step_events hstep, step_stores hstep, fun _ _ => step_pc_setMap hstep⟩

/-! ## The host's interrupt -/

/-- With the latch on, an interrupt is a restart with the latch and the outputs cleared (60_exceptions.md R195, decision D13). -/
theorem State.injectRst_on {s : State} (n : Fin 8) (h : s.ie = true) :
    s.injectRst n = { s with ie := false, events := [], cost := none }.restart n :=
  if_pos h

/-- With the latch off, an interrupt clears the outputs alone (60_exceptions.md R195, log 9). -/
theorem State.injectRst_off {s : State} (n : Fin 8) (h : s.ie = false) :
    s.injectRst n = { s with events := [], cost := none } :=
  if_neg (by simp [h])

/-- Settles O55: where the restart of the interrupt goes, what it leaves alone and what it stores. -/
theorem interruptEntry : Obligations.InterruptEntry := by
  intro s n
  refine ⟨fun hon => ?_, State.injectRst_off n⟩
  rw [State.injectRst_on n hon]
  have hstores := State.restart_stores { s with ie := false, events := [], cost := none } n
  exact ⟨restartAddr_toNat n, State.restart_frame _ n, hstores.congr rfl rfl rfl rfl rfl⟩

/-! ## Runs of the driver -/

/-- What every step and every interrupt keeps holds at the end of every run of the driver (60_exceptions.md R205, R206). -/
theorem drive_keeps {P : State → Prop} (hstep : ∀ {s t}, P s → step s = .next t → P t)
    (hinject : ∀ {s} n, P s → P (s.injectRst n)) (actions : List DriverAction) {s : State} (hs : P s) :
    P (drive actions s).1 := by
  induction actions generalizing s with
  | nil => exact hs
  | cons action rest ih =>
    cases action with
    | stop => exact hs
    | injectRst n => exact ih (hinject n hs)
    | step =>
      rw [drive]
      split
      · next t ht => exact ih (hstep hs ht)
      · exact hs
      · exact hs

/-- A restart keeps the invariant: it stores the two bytes of pc (44_stack_control.md R172). -/
theorem State.restart_inv {s : State} (hs : s.Inv) (n : Fin 8) : (s.restart n).Inv :=
  (s.restart_agrees n).inv (State.storeAll_inv hs _)

/-- An interrupt keeps the invariant, taken or not (60_exceptions.md R195). -/
theorem State.injectRst_inv {s : State} (hs : s.Inv) (n : Fin 8) : (s.injectRst n).Inv := by
  rcases s.injectRst_cases n with ⟨-, e⟩ | ⟨-, e⟩ <;> rw [e]
  · have hcleared : ({ s with ie := false, events := [], cost := none } : State).Inv := hs
    exact State.restart_inv hcleared n
  · exact hs

/-- Settles O15: a step keeps the invariant as O14 says, and so does an interrupt. -/
theorem driverRunKeepsTheInvariant : Obligations.DriverRunKeepsTheInvariant := by
  intro actions s hs
  exact drive_keeps (stepKeepsTheInvariant _ _) (fun n hs => State.injectRst_inv hs n) actions hs

end Sys2Proof.Machine
end
